-- ==== Sys2Proof/Word.lean ====
section
/-! DEFINITION. The widths the manual treats as bits: a byte on a line, a frame number that wraps, the sweep register. -/

namespace Sys2Proof

/-- A byte of a link, of the sensor bus or of the configuration line (R60, R135, R147). -/
abbrev Byte := BitVec 8

/-- A port number, 0 … 11 (section 1.8). -/
abbrev Port := Fin 12

/-- A channel number, 0 … 15 (section 1.8). -/
abbrev ChannelIndex := Fin 16

/-- A frame number: an unsigned 32-bit count that wraps to 0 (section 1.8, R3). -/
abbrev FrameNo := BitVec 32

end Sys2Proof
end

