-- ==== Sys2Proof/Config.lean ====
section
/-! DEFINITION. The part's fixed parameters (section 1.7), and the one order the manual leaves open, as a constant without a body. -/

namespace Sys2Proof

/-- Records the History Ring holds at most (section 1.7, R28). -/
def Config.ringCapacity : Nat := 600

/-- Pushed entries the Profile List holds at most (section 1.7, R42). -/
def Config.listCapacity : Nat := 4

/-- Messages an outgoing queue holds at most (section 1.7, R154). -/
def Config.queueCapacity : Nat := 4

/-- Consecutive rejected frames that take a link DOWN (section 1.7, R149). -/
def Config.rejectionLimit : Nat := 8

/-- The value at which a counter saturates (section 1.8, R163). -/
def Config.counterLimit : Nat := 65535

/-- The value at which a notice count stops (R159). -/
def Config.noticeLimit : Nat := 255

/-- Reports above the ceiling that set the overrun flag (R130). -/
def Config.overrunLimit : Nat := 3

/-- Bytes of a configuration image at most (R135). -/
def Config.imageLimit : Nat := 2048

/-- Which of several ports that go STALE at one expiry is examined last.
The one FREE VALUE of the model: where several ports enter STALE at one frame expiry, R113 and R114 do not say which port is
examined last, and so which PORT_STALE detail a merged entry keeps (R131, R159). The port whose notices are raised last is picked by this
constant, applied to the model's own counter `State.openChoices`. It has no body: no proof can rest on its value (log entry 3). -/
opaque Config.lastStale : Nat → Nat

end Sys2Proof
end

