-- ==== Sys2Proof/Syntax.lean ====
section
/-! DEFINITION. The commands: one constructor of `Instr` per row of spec/opcode_table.json, with the fields that
arrive with it as they stand on the wire (R157). -/

namespace Sys2Proof

/-- The 26-byte profile block of PUSH and SETPROF (R157). -/
structure ProfileBlock where
  lup : BitVec 32
  ldn : BitVec 32
  sup : BitVec 32
  sdn : BitVec 32
  window : BitVec 16
  blend : BitVec 16
  flags : Byte
  restoreRate : BitVec 32
  soeTarget : Byte
deriving DecidableEq, Repr

/-- The 21-byte payload of SETSITE (R157). -/
structure SiteFields where
  exportLimit : BitVec 32
  framePeriod : BitVec 16
  scanPeriod : BitVec 16
  yieldLimit : Byte
  silenceLimit : Byte
  primingFrames : Byte
  tolerance : BitVec 24
  margin : BitVec 24
  sweepMode : Byte
  startMode : Byte
  seed : BitVec 16
deriving DecidableEq, Repr

/-- The 19-byte payload of SETPORT (R157). -/
structure PortFields where
  port : Byte
  role : Byte
  rated : BitVec 32
  fallback : BitVec 32
  lead : Byte
  ratedCharge : BitVec 32
  reserve : BitVec 32
deriving DecidableEq, Repr

/-- The 24-byte payload of SETCHAN (R157). -/
structure ChannelFields where
  channel : Byte
  kind : Byte
  address : Byte
  skip : Byte
  gain : BitVec 24
  offset : BitVec 24
  reduction : Byte
  groupSize : Byte
  averaging : Byte
  missLimit : Byte
  flags : Byte
  low : BitVec 24
  high : BitVec 24
  decay : BitVec 24
deriving DecidableEq, Repr

/-- The commands of the part: every row of the table of operations and events.
A constructor named after a request stands for the arrival of that request's whole frame on the port (log entry 5).
A constructor named after a happening of a frame expiry stands for the expiry at which it comes about (log entry 6). -/
inductive Instr where
  /-- POWER_ON (R133). -/
  | powerOn
  /-- RESET_LINE (R133). -/
  | resetLine
  /-- CONFIG_READ_COMPLETE (R135, R136): the bytes the external memory supplies from address 0 upward. -/
  | configReadComplete (memory : List Byte)
  /-- FRAME_EXPIRY (R2). -/
  | frameExpiry
  /-- PRIMING_END (R6): the expiry that ends PRIMING. -/
  | primingEnd
  /-- PROFILE_ACTIVATION (R46): the expiry at which the entry at this position activates. -/
  | profileActivation (position : Nat)
  /-- PROFILE_EXPIRY (R48): the expiry at which the entry at this position runs out. -/
  | profileExpiry (position : Nat)
  /-- YIELD_TIMEOUT (R113): the expiry at which this port's recall times out. -/
  | yieldTimeout (port : Port)
  /-- SILENCE_TIMEOUT (R121): the expiry at which this port's silence count reaches the limit. -/
  | silenceTimeout (port : Port)
  /-- SCAN_EXPIRY (R58). -/
  | scanExpiry
  /-- SAMPLE_RECEIVED (R60, R63): the four answer bytes, in the order they are received. -/
  | sampleReceived (high mid low status : Byte)
  /-- CONVERTER_ANSWER_TIMEOUT (R62). -/
  | converterAnswerTimeout
  /-- FRAME_REJECTED (R147, R148). -/
  | frameRejected (port : Port)
  /-- INTER_BYTE_GAP_TIMEOUT (R148). -/
  | interByteGapTimeout (port : Port)
  /-- UNKNOWN_KIND (R151): an accepted frame of a kind that is no request kind. -/
  | unknownKind (port : Port) (kind : Byte) (payload : List Byte)
  /-- JOIN (R125), with the claimed role code. -/
  | join (port : Port) (role : Byte)
  /-- REPORT_CLUSTER (R124). -/
  | reportCluster (port : Port) (output available applied : BitVec 32)
  /-- REPORT_STORAGE (R77). -/
  | reportStorage (port : Port) (applied discharge charge soe capacity : BitVec 32)
  /-- YIELD (R119). -/
  | yield (port : Port) (value : BitVec 32)
  /-- LEAVE (R126). -/
  | leave (port : Port)
  /-- PUSH (R43). -/
  | push (port : Port) (block : ProfileBlock) (delay : Byte) (expiry : BitVec 16)
  /-- DROP (R45). -/
  | drop (port : Port)
  /-- QUERY_STATUS (R158). -/
  | queryStatus (port : Port) (index : BitVec 16) (count : Byte)
  /-- QUERY_PORT (R132). -/
  | queryPort (port : Port) (index : BitVec 16) (count : Byte)
  /-- QUERY_HISTORY (R38). -/
  | queryHistory (port : Port) (index : BitVec 16) (count : Byte)
  /-- QUERY_CHANNEL (R75). -/
  | queryChannel (port : Port) (index : BitVec 16) (count : Byte)
  /-- QUERY_LIST (R54). -/
  | queryList (port : Port) (index : BitVec 16) (count : Byte)
  /-- QUERY_COUNTERS (R163). -/
  | queryCounters (port : Port) (index : BitVec 16) (count : Byte)
  /-- SETSITE (R138). -/
  | setSite (port : Port) (fields : SiteFields)
  /-- SETPORT (R139). -/
  | setPort (port : Port) (fields : PortFields)
  /-- SETCHAN (R56). -/
  | setChan (port : Port) (fields : ChannelFields)
  /-- SETPROF (R41). -/
  | setProf (port : Port) (block : ProfileBlock)
  /-- MODE_RUN (R141). -/
  | modeRun (port : Port)
  /-- MODE_STANDBY (R142). -/
  | modeStandby (port : Port)
  /-- CLEAR_COUNTERS (R161); the channel byte is disregarded. -/
  | clearCounters (port : Port) (channel : Byte)
  /-- CLEAR_ALARMS (R71). -/
  | clearAlarms (port : Port) (channel : Byte)
  /-- CLEAR_NOTICES (R161); the channel byte is disregarded. -/
  | clearNotices (port : Port) (channel : Byte)
  /-- RESTART (R144). -/
  | restart (port : Port)
  /-- RESTART_TAKEN (R144): the ACK held in restart pending has left or been removed. -/
  | restartTaken
  /-- TRANSMIT_COMPLETE (R153): the port's transmitter has sent its message's last byte. -/
  | transmitComplete (port : Port)
  /-- LINK_BYTE_RECEIVED (R147, R148): a byte arrives on the port, with or without its stop bit. -/
  | linkByteReceived (port : Port) (byte : Byte) (stopBit : Bool)
deriving DecidableEq, Repr

/-- A request as its payload carries it, whichever port it arrives on (R157). -/
inductive Request where
  | join (role : Byte)
  | reportCluster (output available applied : BitVec 32)
  | reportStorage (applied discharge charge soe capacity : BitVec 32)
  | yield (value : BitVec 32)
  | leave
  | push (block : ProfileBlock) (delay : Byte) (expiry : BitVec 16)
  | drop
  | query (target : Byte) (index : BitVec 16) (count : Byte)
  | setSite (fields : SiteFields)
  | setPort (fields : PortFields)
  | setChan (fields : ChannelFields)
  | setProf (block : ProfileBlock)
  | mode (code : Byte)
  | clear (selector channel : Byte)
  | restart
deriving DecidableEq, Repr

end Sys2Proof
end

