-- ==== Sys2Proof/Decode.lean ====
section
/-! DEFINITION. The byte layouts of requests (R157): the payload of each kind read and written, the frame around it (R146), and the
table's words (no row of the table gives bits). -/

namespace Sys2Proof

/-- `n` bytes of a number, most significant first; a negative number in two's complement (R157). -/
def bigEndian : Nat → Int → List Byte
  | 0, _ => []
  | n + 1, v => BitVec.ofInt 8 (v / 256 ^ n) :: bigEndian n v

/-- The unsigned number that bytes spell, most significant first (R157). -/
def readBytes (bytes : List Byte) : Nat := bytes.foldl (fun acc b => acc * 256 + b.toNat) 0

/-- The field of `n` bytes that begins `at_` bytes into a payload. -/
def field (payload : List Byte) (at_ n : Nat) : BitVec (8 * n) :=
  BitVec.ofNat (8 * n) (readBytes ((payload.drop at_).take n))

/-- An unsigned field, `n` bytes of it, as sent (R157). -/
def sendField {w : Nat} (n : Nat) (v : BitVec w) : List Byte := bigEndian n v.toNat

/-- The exclusive-or of a list of bytes. -/
def xorBytes (bytes : List Byte) : Byte := bytes.foldl (· ^^^ ·) 0

/-- The CHECK byte of a frame (R146, R147). -/
def checkByte (kind len : Byte) (payload : List Byte) : Byte := kind ^^^ len ^^^ xorBytes payload

/-- The SYNC byte (R146). -/
def syncByte : Byte := 0xA5#8

/-- A whole frame: SYNC, KIND, LEN, payload, CHECK (R146). -/
def frameBytes (kind : Byte) (payload : List Byte) : List Byte :=
  let len := BitVec.ofNat 8 payload.length
  syncByte :: kind :: len :: (payload ++ [checkByte kind len payload])

/-- The kinds a master may send (R151, check 1). -/
def isRequestKind (kind : Byte) : Bool :=
  (0x10#8 ≤ kind && kind ≤ 0x13#8) || (0x20#8 ≤ kind && kind ≤ 0x29#8)

/-- The profile block that begins `at_` bytes into a payload (R157). -/
def readProfileBlock (p : List Byte) (at_ : Nat) : ProfileBlock where
  lup := field p at_ 4
  ldn := field p (at_ + 4) 4
  sup := field p (at_ + 8) 4
  sdn := field p (at_ + 12) 4
  window := field p (at_ + 16) 2
  blend := field p (at_ + 18) 2
  flags := field p (at_ + 20) 1
  restoreRate := field p (at_ + 21) 4
  soeTarget := field p (at_ + 25) 1

/-- The SETSITE payload (R157). -/
def readSiteFields (p : List Byte) : SiteFields where
  exportLimit := field p 0 4
  framePeriod := field p 4 2
  scanPeriod := field p 6 2
  yieldLimit := field p 8 1
  silenceLimit := field p 9 1
  primingFrames := field p 10 1
  tolerance := field p 11 3
  margin := field p 14 3
  sweepMode := field p 17 1
  startMode := field p 18 1
  seed := field p 19 2

/-- The SETPORT payload (R157). -/
def readPortFields (p : List Byte) : PortFields where
  port := field p 0 1
  role := field p 1 1
  rated := field p 2 4
  fallback := field p 6 4
  lead := field p 10 1
  ratedCharge := field p 11 4
  reserve := field p 15 4

/-- The SETCHAN payload (R157). -/
def readChannelFields (p : List Byte) : ChannelFields where
  channel := field p 0 1
  kind := field p 1 1
  address := field p 2 1
  skip := field p 3 1
  gain := field p 4 3
  offset := field p 7 3
  reduction := field p 10 1
  groupSize := field p 11 1
  averaging := field p 12 1
  missLimit := field p 13 1
  flags := field p 14 1
  low := field p 15 3
  high := field p 18 3
  decay := field p 21 3

/-- The request a payload of this kind carries; none where the kind has no payload of this length (R151, check 2; R157).
A REPORT of 12 bytes is a cluster's and one of 20 bytes a storage port's: the port's role is judged later. -/
def Request.decode (kind : Byte) (p : List Byte) : Option Request :=
  let n := p.length
  if kind = 0x10#8 then if n = 1 then some (.join (field p 0 1)) else none
  else if kind = 0x11#8 then
    if n = 12 then some (.reportCluster (field p 0 4) (field p 4 4) (field p 8 4))
    else if n = 20 then
      some (.reportStorage (field p 0 4) (field p 4 4) (field p 8 4) (field p 12 4) (field p 16 4))
    else none
  else if kind = 0x12#8 then if n = 4 then some (.yield (field p 0 4)) else none
  else if kind = 0x13#8 then if n = 0 then some .leave else none
  else if kind = 0x20#8 then
    if n = 29 then some (.push (readProfileBlock p 0) (field p 26 1) (field p 27 2)) else none
  else if kind = 0x21#8 then if n = 0 then some .drop else none
  else if kind = 0x22#8 then
    if n = 4 then some (.query (field p 0 1) (field p 1 2) (field p 3 1)) else none
  else if kind = 0x23#8 then if n = 21 then some (.setSite (readSiteFields p)) else none
  else if kind = 0x24#8 then if n = 19 then some (.setPort (readPortFields p)) else none
  else if kind = 0x25#8 then if n = 24 then some (.setChan (readChannelFields p)) else none
  else if kind = 0x26#8 then if n = 26 then some (.setProf (readProfileBlock p 0)) else none
  else if kind = 0x27#8 then if n = 1 then some (.mode (field p 0 1)) else none
  else if kind = 0x28#8 then if n = 2 then some (.clear (field p 0 1) (field p 1 1)) else none
  else if kind = 0x29#8 then if n = 0 then some .restart else none
  else none

/-- The kind code of a request (R157). -/
def Request.kind : Request → Byte
  | .join _ => 0x10#8
  | .reportCluster .. => 0x11#8
  | .reportStorage .. => 0x11#8
  | .yield _ => 0x12#8
  | .leave => 0x13#8
  | .push .. => 0x20#8
  | .drop => 0x21#8
  | .query .. => 0x22#8
  | .setSite _ => 0x23#8
  | .setPort _ => 0x24#8
  | .setChan _ => 0x25#8
  | .setProf _ => 0x26#8
  | .mode _ => 0x27#8
  | .clear .. => 0x28#8
  | .restart => 0x29#8

/-- A profile block as sent (R157). -/
def sendProfileBlock (b : ProfileBlock) : List Byte :=
  sendField 4 b.lup ++ sendField 4 b.ldn ++ sendField 4 b.sup ++ sendField 4 b.sdn ++ sendField 2 b.window ++
    sendField 2 b.blend ++ [b.flags] ++ sendField 4 b.restoreRate ++ [b.soeTarget]

/-- The payload of a request as a master sends it (R157). -/
def Request.payload : Request → List Byte
  | .join role => [role]
  | .reportCluster o a p => sendField 4 o ++ sendField 4 a ++ sendField 4 p
  | .reportStorage p d c e k => sendField 4 p ++ sendField 4 d ++ sendField 4 c ++ sendField 4 e ++ sendField 4 k
  | .yield v => sendField 4 v
  | .leave => []
  | .push b delay expiry => sendProfileBlock b ++ [delay] ++ sendField 2 expiry
  | .drop => []
  | .query t i c => [t] ++ sendField 2 i ++ [c]
  | .setSite f =>
    sendField 4 f.exportLimit ++ sendField 2 f.framePeriod ++ sendField 2 f.scanPeriod ++
      [f.yieldLimit, f.silenceLimit, f.primingFrames] ++ sendField 3 f.tolerance ++ sendField 3 f.margin ++
      [f.sweepMode, f.startMode] ++ sendField 2 f.seed
  | .setPort f =>
    [f.port, f.role] ++ sendField 4 f.rated ++ sendField 4 f.fallback ++ [f.lead] ++ sendField 4 f.ratedCharge ++
      sendField 4 f.reserve
  | .setChan f =>
    [f.channel, f.kind, f.address, f.skip] ++ sendField 3 f.gain ++ sendField 3 f.offset ++
      [f.reduction, f.groupSize, f.averaging, f.missLimit, f.flags] ++ sendField 3 f.low ++ sendField 3 f.high ++
      sendField 3 f.decay
  | .setProf b => sendProfileBlock b
  | .mode code => [code]
  | .clear selector channel => [selector, channel]
  | .restart => []

/-- The frame a master sends for a request (R146, R157). -/
def Request.frame (r : Request) : List Byte := frameBytes r.kind r.payload

/-- The request a command stands for, with the port it arrives on; none for a command that is no request's frame (log entry 5). -/
def Instr.request : Instr → Option (Port × Request)
  | .join p role => some (p, .join role)
  | .reportCluster p o a d => some (p, .reportCluster o a d)
  | .reportStorage p a d c e k => some (p, .reportStorage a d c e k)
  | .yield p v => some (p, .yield v)
  | .leave p => some (p, .leave)
  | .push p b delay expiry => some (p, .push b delay expiry)
  | .drop p => some (p, .drop)
  | .queryStatus p i c => some (p, .query 0#8 i c)
  | .queryPort p i c => some (p, .query 1#8 i c)
  | .queryHistory p i c => some (p, .query 2#8 i c)
  | .queryChannel p i c => some (p, .query 3#8 i c)
  | .queryList p i c => some (p, .query 4#8 i c)
  | .queryCounters p i c => some (p, .query 5#8 i c)
  | .setSite p f => some (p, .setSite f)
  | .setPort p f => some (p, .setPort f)
  | .setChan p f => some (p, .setChan f)
  | .setProf p b => some (p, .setProf b)
  | .modeRun p => some (p, .mode 1#8)
  | .modeStandby p => some (p, .mode 0#8)
  | .clearCounters p c => some (p, .clear 0#8 c)
  | .clearAlarms p c => some (p, .clear 1#8 c)
  | .clearNotices p c => some (p, .clear 2#8 c)
  | .restart p => some (p, .restart)
  | .powerOn | .resetLine | .configReadComplete _ | .frameExpiry | .primingEnd | .profileActivation _ | .profileExpiry _ => none
  | .yieldTimeout _ | .silenceTimeout _ | .scanExpiry | .sampleReceived .. | .converterAnswerTimeout => none
  | .frameRejected _ | .interByteGapTimeout _ | .unknownKind .. | .restartTaken => none
  | .transmitComplete _ | .linkByteReceived .. => none

/-- A signed field's value: two's complement over its width (R157). -/
def signed {w : Nat} (v : BitVec w) : Int := v.toInt

/-- The signed 24-bit sample of a converter's answer, most significant byte first (R60). -/
def rawSample (high mid low : Byte) : Int := ((high ++ mid ++ low : BitVec 24)).toInt

/-- No row of spec/opcode_table.json gives bits, so no word spells a command (log entry 1). -/
def decodeTableWord (_nbits _w : Nat) : Option Instr := none

end Sys2Proof
end

