-- ==== Sys2Proof/WellFormed.lean ====
section
/-! DEFINITION. Which commands stand for something that can happen at the part's lines: the checks the types do not make. -/

namespace Sys2Proof

/-- A position in the Profile List, 1 … 4 (section 3.3). -/
def positionInRange (position : Nat) : Bool := 1 ≤ position && position ≤ Config.listCapacity

/-- A command is well formed where its operands can arrive: an UNKNOWN_KIND frame has a kind that is no request kind and at most
64 payload bytes (R147, R151), and a list position lies in 1 … 4. Every other operand's type is its range. -/
def Instr.wellFormed : Instr → Bool
  | .unknownKind _ kind payload => !isRequestKind kind && payload.length ≤ 64
  | .profileActivation position => positionInRange position
  | .profileExpiry position => positionInRange position
  | .powerOn | .resetLine | .configReadComplete _ | .frameExpiry | .primingEnd | .yieldTimeout _ | .silenceTimeout _ => true
  | .scanExpiry | .sampleReceived .. | .converterAnswerTimeout | .frameRejected _ | .interByteGapTimeout _ => true
  | .join .. | .reportCluster .. | .reportStorage .. | .yield .. | .leave _ | .push .. | .drop _ => true
  | .queryStatus .. | .queryPort .. | .queryHistory .. | .queryChannel .. | .queryList .. | .queryCounters .. => true
  | .setSite .. | .setPort .. | .setChan .. | .setProf .. | .modeRun _ | .modeStandby _ => true
  | .clearCounters .. | .clearAlarms .. | .clearNotices .. | .restart _ | .restartTaken => true
  | .transmitComplete _ | .linkByteReceived .. => true

end Sys2Proof
end

