-- ==== Sys2Proof/Machine/State.lean ====
section
/-! DEFINITION. The state of the part, block by block (section 1.4), as plain data, and its values after power-on. -/

namespace Sys2Proof.Machine

/-- The governor modes (chapter 8). -/
inductive Mode where
  | loading | standby | priming | governing | holding
deriving DecidableEq, Repr

/-- What began the present period of operation (section 8.1). -/
inductive RestartCause where
  | power | line | command (port : Port)
deriving DecidableEq, Repr

/-- The outcome of the last image read or MODE RUN (section 8.1). -/
inductive CheckResult where
  | none | passed | format | length | crc | record | range | noMeter | noCluster | roleCount | rating | fallback
  | fallbackSum | lead
deriving DecidableEq, Repr

/-- Sweep mode of the site record (section 6.1). -/
inductive SweepMode where
  | sequential | interleaved
deriving DecidableEq, Repr

/-- Start mode of the site record (section 6.1). -/
inductive StartMode where
  | rotate | random
deriving DecidableEq, Repr

/-- The site record (R138). -/
structure SiteRecord where
  exportLimit : Int
  framePeriod : Nat
  scanPeriod : Nat
  yieldLimit : Nat
  silenceLimit : Nat
  primingFrames : Nat
  tolerance : Int
  margin : Int
  sweepMode : SweepMode
  startMode : StartMode
  seed : BitVec 16
deriving DecidableEq, Repr

/-- The roles of a port (section 1.6). -/
inductive Role where
  | unused | cluster | storage | supervisor
deriving DecidableEq, Repr

/-- A port table entry (R139): rated is the rated discharge of a storage port. -/
structure PortConfig where
  role : Role
  rated : Int
  fallback : Int
  lead : Option ChannelIndex
  ratedCharge : Int
  reserve : Int
deriving DecidableEq, Repr

/-- A timer of the part: stopped, or running with the period it read when it was started (R2, R57). -/
inductive Timer where
  | stopped
  | running (periodMs : Nat)
deriving DecidableEq, Repr

/-- The profile fields (section 3.1). -/
structure Profile where
  lup : Int
  ldn : Int
  sup : Int
  sdn : Int
  window : Nat
  blend : Int
  anticipate : Bool
  restore : Bool
  reseed : Bool
  bound : Bool
  restoreRate : Int
  soeTarget : Int
deriving DecidableEq, Repr

/-- The state of a pushed entry (section 3.3). -/
inductive EntryState where
  | pending | active
deriving DecidableEq, Repr

/-- A pushed entry (section 3.3). -/
structure Entry where
  profile : Profile
  port : Port
  delay : Nat
  expiry : Nat
  state : EntryState
  frames : Nat
deriving DecidableEq, Repr

/-- The marks of a frame record (R27). -/
structure Marks where
  excursion : Bool
  windowConflict : Bool
  hold : Bool
  compliance : Bool
  reseed : Bool
deriving DecidableEq, Repr

/-- A frame record of the History Ring (section 2.2). -/
structure FrameRecord where
  number : FrameNo
  reference : Int
  target : Int
  measured : Option Int
  storageNet : Int
  marks : Marks
deriving DecidableEq, Repr

/-- What a channel measures (section 4.1). -/
inductive ChannelKind where
  | off | poiPower | irradiance | aux
deriving DecidableEq, Repr

/-- How a full group is reduced (R63). -/
inductive Reduction where
  | first | max | min | mean
deriving DecidableEq, Repr

/-- A channel's standing (section 4.1). -/
inductive ChannelState where
  | off | filling | valid | lost
deriving DecidableEq, Repr

/-- The configuration part of a channel record (section 4.1). -/
structure ChannelConfig where
  kind : ChannelKind
  address : Nat
  skip : Nat
  gain : Int
  offset : Int
  reduction : Reduction
  groupSize : Nat
  averaging : Nat
  missLimit : Nat
  monitor : Bool
  notify : Bool
  low : Int
  high : Int
  decay : Int
deriving DecidableEq, Repr

/-- A channel record (section 4.1): the group in arrival order, the averaging buffer oldest first. -/
structure Channel where
  config : ChannelConfig
  state : ChannelState
  skipCounter : Nat
  group : List Int
  buffer : List Int
  value : Option Int
  missingRun : Nat
  lossMark : Bool
  track : Int
  ratio : Int
  lowAlarm : Bool
  highAlarm : Bool
  missing : Nat
deriving DecidableEq, Repr

/-- The scan in progress and its read on the sensor bus: the channel whose answer is awaited, and the address byte sent for
it (R58, R60). The next channel to be visited is the one after it. -/
structure Scan where
  channel : ChannelIndex
  address : Nat
deriving DecidableEq, Repr

/-- A port's standing in the Allocation Table (section 7.2). -/
inductive Participation where
  | absent | engaged | recalling | stale
deriving DecidableEq, Repr

/-- Why a port is STALE (section 7.1). -/
inductive StaleCause where
  | silence | yieldTimeout
deriving DecidableEq, Repr

/-- An outstanding recall: its value and its first-send frame (section 7.1). -/
structure Recall where
  value : Int
  firstSend : FrameNo
deriving DecidableEq, Repr

/-- The last cluster REPORT as stored (R124). -/
structure ClusterReport where
  output : Int
  available : Int
  applied : Int
deriving DecidableEq, Repr

/-- The last storage REPORT as stored (R77), and d_k and e_k of the last GOVERNING expiry (R78, R79). -/
structure StorageReport where
  applied : Int
  discharge : Int
  charge : Int
  soe : Int
  capacity : Int
  dischargeAvailability : Int
  chargeAvailability : Int
deriving DecidableEq, Repr

/-- A port record of the Allocation Table (section 7.1). Its role, ratings, fallback and lead channel are the port table's entry
in force, which State holds once (log entry 10). -/
structure PortRecord where
  participation : Participation
  committed : Int
  lastSent : Option Int
  outstanding : Option Recall
  staged : Option Int
  desired : Option Int
  cluster : ClusterReport
  storage : StorageReport
  reportAge : Nat
  silence : Nat
  cause : Option StaleCause
  overrun : Bool
  overrunRun : Nat
  yieldsRefused : Nat
  recallTimeouts : Nat
deriving DecidableEq, Repr

/-- Actions of a LIMIT (R157). -/
inductive LimitAction where
  | raise | keep | lower | release
deriving DecidableEq, Repr

/-- Reasons of a NAK (R157). -/
inductive NakReason where
  | kind | length | role | state | range | listFull | notFound | noRecall | mismatch | config
deriving DecidableEq, Repr

/-- Causes of a LIST_CHANGE (R52). -/
inductive ListCause where
  | pushed | activated | expired | dropped | unbound | discarded | defaultSet
deriving DecidableEq, Repr

/-- A notice with its detail (R157). -/
inductive Notice where
  | modeChange (left entered : Mode)
  | meterLost (channel : ChannelIndex) (missLimit : Nat)
  | meterBack (channel : ChannelIndex) (value : Int)
  | portStale (port : Port) (cause : StaleCause) (committed : Int)
  | excursion (shortfall : Int)
  | windowConflict (amount : Int)
  | compliance (excess : Int)
  | portOverrun (port : Port) (output : Int)
  | channelAlarm (channel : ChannelIndex) (high : Bool) (value : Int)
  | listChange (cause : ListCause) (port : Option Port) (held activePosition : Nat)
deriving DecidableEq, Repr

/-- An entry of a pending notice set (R159). -/
structure PendingNotice where
  count : Nat
  notice : Notice
deriving DecidableEq, Repr

/-- The data of a STATUS reply (R158). -/
structure StatusData where
  mode : Mode
  cause : RestartCause
  check : CheckResult
  frame : FrameNo
  reference : Int
  target : Int
  storageNet : Int
  net : Int
  exported : Int
  activePosition : Nat
  activePort : Option Port
  latched : Bool
deriving DecidableEq, Repr

/-- The slot of a LIST reply (R54). -/
inductive ListSlot where
  | absent
  | default (profile : Profile)
  | entry (entry : Entry)
deriving DecidableEq, Repr

/-- The data of a REPLY, as its owners' state stood when the query was taken (R158). -/
inductive ReplyData where
  | status (data : StatusData)
  | port (config : PortConfig) (record : PortRecord)
  | history (first second : Option FrameRecord)
  | channel (record : Channel)
  | list (held activePosition : Nat) (slot : ListSlot)
  | counters (values : List Nat)
deriving DecidableEq, Repr

/-- A message the part sends (R157). An ACK bears `pendingRestart` when it is the one that restart pending waits on (R144). -/
inductive Message where
  | limit (action : LimitAction) (value : Int) (frame : FrameNo)
  | ack (kind : Byte) (clamped : Bool) (pendingRestart : Bool)
  | nak (kind : Byte) (reason : NakReason)
  | reply (index : BitVec 16) (data : ReplyData)
  | notice (count : Nat) (notice : Notice)
deriving DecidableEq, Repr

/-- The receiver of a port with what it has kept of the frame (R147). -/
inductive Receiver where
  | hunt
  | kind
  | len (kind : Byte)
  | payload (kind len : Byte) (held : List Byte)
  | check (kind len : Byte) (held : List Byte)
deriving DecidableEq, Repr

/-- The transmitter of a port (R153). -/
inductive Transmitter where
  | idle
  | sending (message : Message)
deriving DecidableEq, Repr

/-- The state of a link port (section 9.1): the queue oldest first, the pending notices by rising kind code. -/
structure LinkPort where
  receiver : Receiver
  up : Bool
  rejections : Nat
  queue : List Message
  transmitter : Transmitter
  notices : List PendingNotice
  accepted : Nat
  rejected : Nat
deriving DecidableEq, Repr

/-- The Configuration Reader's read progress (R135). -/
inductive ReadProgress where
  | idle | reading
deriving DecidableEq, Repr

/-- The state of the part. -/
structure State where
  /- Mode Controller (section 8.1) -/
  mode : Mode
  restartCause : RestartCause
  checkResult : CheckResult
  site : SiteRecord
  portTable : Vector PortConfig 12
  restartPending : Option Port
  holdingEntries : Nat
  /- Configuration Reader -/
  readProgress : ReadProgress
  /- Ramp Governor (section 1.1) -/
  frameTimer : Timer
  frameNumber : FrameNo
  primingCounter : Nat
  reference : Int
  target : Int
  storageNet : Int
  excursions : Nat
  windowConflicts : Nat
  /- History Ring (section 2.1): the records newest first -/
  ring : List FrameRecord
  windowBase : FrameNo
  sinceBase : Nat
  reseedPending : Bool
  complianceLatched : Bool
  complianceEpisodes : Nat
  /- Profile List (chapter 3): the entries oldest first -/
  defaultProfile : Profile
  entries : List Entry
  /- Scan Unit (chapter 4) -/
  scanTimer : Timer
  scan : Option Scan
  channels : Vector Channel 16
  /- Allocator (chapters 6 and 7) -/
  sweepStart : Port
  sweepLfsr : BitVec 16
  sweepOrder : List Port
  records : Vector PortRecord 12
  /- Link Ports (chapter 9) -/
  links : Vector LinkPort 12
  /- The model's own: how many open orders have been settled by `Config.lastStale`, and the commands that wait -/
  openChoices : Nat
  pending : List Instr
deriving DecidableEq, Repr

/-- Why the part would stop. The manual describes no event at which the part stops, so nothing raises a fault (safe: a step never
ends in one). -/
inductive Fault where
deriving DecidableEq, Repr

/-- Why a command has no meaning. -/
inductive Refusal where
  /-- Raised by an arm of `exec` whose command has no meaning yet, and by nothing else (safe). No arm is one. -/
  | notModelled (mnemonic : String)
deriving DecidableEq, Repr

/-- The site record's start values (R138). -/
def SiteRecord.start : SiteRecord where
  exportLimit := 1000000
  framePeriod := 200
  scanPeriod := 50
  yieldLimit := 3
  silenceLimit := 10
  primingFrames := 25
  tolerance := 0
  margin := 0
  sweepMode := .sequential
  startMode := .rotate
  seed := 0

/-- A port table entry's start values (R139). -/
def PortConfig.start : PortConfig where
  role := .unused
  rated := 0
  fallback := 0
  lead := none
  ratedCharge := 0
  reserve := 0

/-- The default profile's start values (R40). -/
def Profile.start : Profile where
  lup := 20000
  ldn := 20000
  sup := 2000
  sdn := 2000
  window := 300
  blend := 256
  anticipate := false
  restore := false
  reseed := false
  bound := false
  restoreRate := 0
  soeTarget := 0

/-- A channel's configuration start values (section 4.1). -/
def ChannelConfig.start : ChannelConfig where
  kind := .off
  address := 0
  skip := 0
  gain := 65536
  offset := 0
  reduction := .mean
  groupSize := 1
  averaging := 1
  missLimit := 3
  monitor := false
  notify := false
  low := -8388608
  high := 8388607
  decay := 0

/-- A channel record's start values (R55). -/
def Channel.start : Channel where
  config := .start
  state := .off
  skipCounter := 0
  group := []
  buffer := []
  value := none
  missingRun := 0
  lossMark := false
  track := 0
  ratio := 256
  lowAlarm := false
  highAlarm := false
  missing := 0

/-- A port record's start values under the port table's start values, whose fallback is 0 (R76, R108). -/
def PortRecord.start : PortRecord where
  participation := .absent
  committed := 0
  lastSent := none
  outstanding := none
  staged := none
  desired := none
  cluster := ⟨0, 0, 0⟩
  storage := ⟨0, 0, 0, 0, 0, 0, 0⟩
  reportAge := 0
  silence := 0
  cause := none
  overrun := false
  overrunRun := 0
  yieldsRefused := 0
  recallTimeouts := 0

/-- A link port's start values (section 9.1, R146). -/
def LinkPort.start : LinkPort where
  receiver := .hunt
  up := false
  rejections := 0
  queue := []
  transmitter := .idle
  notices := []
  accepted := 0
  rejected := 0

/-- The part right after power-on (R133): every block at its start values, the restart cause POWER, the mode LOADING and the
image read begun. The queue of commands is empty. -/
def State.reset : State where
  mode := .loading
  restartCause := .power
  checkResult := .none
  site := .start
  portTable := Vector.replicate 12 .start
  restartPending := none
  holdingEntries := 0
  readProgress := .reading
  frameTimer := .stopped
  frameNumber := 0
  primingCounter := 0
  reference := 0
  target := 0
  storageNet := 0
  excursions := 0
  windowConflicts := 0
  ring := []
  windowBase := 0
  sinceBase := 0
  reseedPending := false
  complianceLatched := false
  complianceEpisodes := 0
  defaultProfile := .start
  entries := []
  scanTimer := .stopped
  scan := none
  channels := Vector.replicate 16 .start
  sweepStart := 0
  sweepLfsr := 0x5A5A#16
  sweepOrder := List.finRange 12
  records := Vector.replicate 12 .start
  links := Vector.replicate 12 .start
  openChoices := 0
  pending := []

end Sys2Proof.Machine
end

