-- ==== Sys2Proof/Machine/Flags.lean ====
section
/-! DEFINITION. Flag bytes, marks, saturating counts, notice kinds and the pending notice set. -/

namespace Sys2Proof.Machine

/-- A count advanced by one, unless it already stands at its limit (section 1.8, R5, R62, R114, R130, R159, R163). -/
def countUp (limit n : Nat) : Nat := if n < limit then n + 1 else n

/-- A counter advanced by one, saturating at 65,535 (R163). -/
def advance (n : Nat) : Nat := countUp Config.counterLimit n

/-- A byte of flags, the first at the least significant bit; positions not given are 0 (R157). -/
def flagByte : List Bool → Nat
  | [] => 0
  | b :: bs => (if b then 1 else 0) + 2 * flagByte bs

/-- The profile flags byte: ANTICIPATE 0x01, RESTORE 0x02, RESEED 0x04, BOUND 0x08 (R157). -/
def Profile.flags (p : Profile) : Nat := flagByte [p.anticipate, p.restore, p.reseed, p.bound]

/-- The marks byte: EXCURSION 0x01, WINDOW_CONFLICT 0x02, HOLD 0x04, COMPLIANCE 0x08, RESEED 0x10 (R157). -/
def Marks.byte (m : Marks) : Nat := flagByte [m.excursion, m.windowConflict, m.hold, m.compliance, m.reseed]

/-- The empty set of marks (R27). -/
def Marks.empty : Marks := ⟨false, false, false, false, false⟩

/-- The kind code of a notice (R157). -/
def Notice.code : Notice → Nat
  | .modeChange .. => 1
  | .meterLost .. => 2
  | .meterBack .. => 3
  | .portStale .. => 4
  | .excursion _ => 5
  | .windowConflict _ => 6
  | .compliance _ => 7
  | .portOverrun .. => 8
  | .channelAlarm .. => 9
  | .listChange .. => 10

/-- A notice raised into a pending set: an entry of its kind advances its count and takes the new detail, and otherwise an entry
with count 1 is made; the set stands by rising kind code (R159). -/
def addNotice (n : Notice) : List PendingNotice → List PendingNotice
  | [] => [⟨1, n⟩]
  | e :: rest =>
    if n.code < e.notice.code then ⟨1, n⟩ :: e :: rest
    else if n.code = e.notice.code then ⟨countUp Config.noticeLimit e.count, n⟩ :: rest
    else e :: addNotice n rest

/-- A LIMIT, as the admission rules tell it from a reply (R154). -/
def Message.isLimit : Message → Bool
  | .limit .. => true
  | _ => false

/-- A reply is an ACK, a NAK or a REPLY (R154). -/
def Message.isReply : Message → Bool
  | .ack .. => true
  | .nak .. => true
  | .reply .. => true
  | _ => false

/-- The ACK that restart pending waits on (R144). -/
def Message.isRestartAck : Message → Bool
  | .ack _ _ pendingRestart => pendingRestart
  | _ => false

end Sys2Proof.Machine
end

