-- ==== Sys2Proof/Machine/Operands.lean ====
section
/-! DEFINITION. What request fields mean: codes, ranges and clamps (R41, R44, R56, R138, R139, R157). -/

namespace Sys2Proof.Machine

/-- A value clamped to [a, b] (section 1.9). -/
def clamp (a b v : Int) : Int := if v < a then a else if b < v then b else v

/-- A value lies in [a, b]. -/
def inRange (a b v : Int) : Bool := a ≤ v && v ≤ b

/-- The greatest power of a profile, site or port field, in kW (section 1.7). -/
def powerLimit : Int := 1000000

/-- Role codes (R157). -/
def Role.ofCode (code : Byte) : Option Role :=
  match code.toNat with
  | 0 => some .unused
  | 1 => some .cluster
  | 2 => some .storage
  | 3 => some .supervisor
  | _ => none

/-- The code of a role (R157). -/
def Role.code : Role → Nat
  | .unused => 0
  | .cluster => 1
  | .storage => 2
  | .supervisor => 3

/-- Sweep mode codes (R157). -/
def SweepMode.ofCode (code : Byte) : Option SweepMode :=
  match code.toNat with
  | 0 => some .sequential
  | 1 => some .interleaved
  | _ => none

/-- Start mode codes (R157). -/
def StartMode.ofCode (code : Byte) : Option StartMode :=
  match code.toNat with
  | 0 => some .rotate
  | 1 => some .random
  | _ => none

/-- Channel kind codes (R157). -/
def ChannelKind.ofCode (code : Byte) : Option ChannelKind :=
  match code.toNat with
  | 0 => some .off
  | 1 => some .poiPower
  | 2 => some .irradiance
  | 3 => some .aux
  | _ => none

/-- The code of a channel kind (R157). -/
def ChannelKind.code : ChannelKind → Nat
  | .off => 0
  | .poiPower => 1
  | .irradiance => 2
  | .aux => 3

/-- Reduction mode codes (R157). -/
def Reduction.ofCode (code : Byte) : Option Reduction :=
  match code.toNat with
  | 0 => some .first
  | 1 => some .max
  | 2 => some .min
  | 3 => some .mean
  | _ => none

/-- A port number of a request. -/
def portOf (n : Nat) : Option Port := if h : n < 12 then some ⟨n, h⟩ else none

/-- A channel number of a request. -/
def channelOf (n : Nat) : Option ChannelIndex := if h : n < 16 then some ⟨n, h⟩ else none

/-- The profile a block spells, its flags from the four positions of R157 and the others disregarded. -/
def profileOf (b : ProfileBlock) : Profile where
  lup := b.lup.toNat
  ldn := b.ldn.toNat
  sup := b.sup.toNat
  sdn := b.sdn.toNat
  window := b.window.toNat
  blend := b.blend.toNat
  anticipate := b.flags.getLsbD 0
  restore := b.flags.getLsbD 1
  reseed := b.flags.getLsbD 2
  bound := b.flags.getLsbD 3
  restoreRate := b.restoreRate.toNat
  soeTarget := b.soeTarget.toNat

/-- Every profile field lies in its range (section 3.1). -/
def Profile.inRange (p : Profile) : Bool :=
  Machine.inRange 0 powerLimit p.lup && Machine.inRange 0 powerLimit p.ldn && Machine.inRange 1 powerLimit p.sup &&
    Machine.inRange 1 powerLimit p.sdn && (10 ≤ p.window && p.window ≤ 600) && Machine.inRange 1 256 p.blend &&
    Machine.inRange 0 powerLimit p.restoreRate && Machine.inRange 0 100 p.soeTarget

/-- A pushed profile with each field clamped into its range (R44). -/
def Profile.clamped (p : Profile) : Profile :=
  { p with
    lup := clamp 0 powerLimit p.lup
    ldn := clamp 0 powerLimit p.ldn
    sup := clamp 1 powerLimit p.sup
    sdn := clamp 1 powerLimit p.sdn
    window := (clamp 10 600 p.window).toNat
    blend := clamp 1 256 p.blend
    restoreRate := clamp 0 powerLimit p.restoreRate
    soeTarget := clamp 0 100 p.soeTarget }

/-- The default profile a SETPROF gives, with BOUND stored clear; none where a field is out of range (R41). -/
def defaultProfileOf (b : ProfileBlock) : Option Profile :=
  if (profileOf b).inRange then some { profileOf b with bound := false } else none

/-- The site record a SETSITE gives; none where a field is out of range or a period is no whole number of steps (R138). -/
def siteOf (f : SiteFields) : Option SiteRecord :=
  match SweepMode.ofCode f.sweepMode, StartMode.ofCode f.startMode with
  | some sweepMode, some startMode =>
    let framePeriod := f.framePeriod.toNat
    let scanPeriod := f.scanPeriod.toNat
    if inRange 1 powerLimit f.exportLimit.toNat && inRange 100 2000 framePeriod && framePeriod % 100 == 0 &&
        inRange 10 1000 scanPeriod && scanPeriod % 10 == 0 && inRange 1 15 f.yieldLimit.toNat &&
        inRange 2 50 f.silenceLimit.toNat && inRange 1 255 f.primingFrames.toNat &&
        inRange 0 powerLimit f.tolerance.toNat && inRange 0 powerLimit f.margin.toNat then
      some
        { exportLimit := f.exportLimit.toNat
          framePeriod := framePeriod
          scanPeriod := scanPeriod
          yieldLimit := f.yieldLimit.toNat
          silenceLimit := f.silenceLimit.toNat
          primingFrames := f.primingFrames.toNat
          tolerance := f.tolerance.toNat
          margin := f.margin.toNat
          sweepMode := sweepMode
          startMode := startMode
          seed := f.seed }
    else none
  | _, _ => none

/-- A lead channel field: 255 names none, and any other value above 15 is out of range (R139, R157). -/
def leadOf (code : Byte) : Option (Option ChannelIndex) :=
  if code = 255#8 then some none else (channelOf code.toNat).map some

/-- A port table entry lies in the ranges of the role it names (R139). -/
def PortConfig.inRange (c : PortConfig) : Bool :=
  match c.role with
  | .cluster =>
    Machine.inRange 1 powerLimit c.rated && Machine.inRange 0 powerLimit c.fallback && c.ratedCharge == 0 && c.reserve == 0
  | .storage =>
    Machine.inRange 0 powerLimit c.rated && c.fallback == 0 && c.lead == none &&
      Machine.inRange 0 powerLimit c.ratedCharge && Machine.inRange 0 4000000 c.reserve
  | .supervisor | .unused =>
    c.rated == 0 && c.fallback == 0 && c.lead == none && c.ratedCharge == 0 && c.reserve == 0

/-- The port and the entry a SETPORT gives; none where a field is out of range (R139). -/
def portConfigOf (f : PortFields) : Option (Port × PortConfig) :=
  match portOf f.port.toNat, Role.ofCode f.role, leadOf f.lead with
  | some port, some role, some lead =>
    let c : PortConfig :=
      { role := role
        rated := f.rated.toNat
        fallback := f.fallback.toNat
        lead := lead
        ratedCharge := f.ratedCharge.toNat
        reserve := f.reserve.toNat }
    if c.inRange then some (port, c) else none
  | _, _, _ => none

/-- The channel and the configuration part a SETCHAN gives; none where a field is out of range (R56). -/
def channelConfigOf (f : ChannelFields) : Option (ChannelIndex × ChannelConfig) :=
  match channelOf f.channel.toNat, ChannelKind.ofCode f.kind, Reduction.ofCode f.reduction with
  | some channel, some kind, some reduction =>
    if inRange 0 127 f.address.toNat && inRange 1 16 f.groupSize.toNat && inRange 1 8 f.averaging.toNat &&
        inRange 1 15 f.missLimit.toNat && inRange 0 8388607 f.decay.toNat then
      some (channel,
        { kind := kind
          address := f.address.toNat
          skip := f.skip.toNat
          gain := signed f.gain
          offset := signed f.offset
          reduction := reduction
          groupSize := f.groupSize.toNat
          averaging := f.averaging.toNat
          missLimit := f.missLimit.toNat
          monitor := f.flags.getLsbD 0
          notify := f.flags.getLsbD 1
          low := signed f.low
          high := signed f.high
          decay := f.decay.toNat })
    else none
  | _, _, _ => none

end Sys2Proof.Machine
end

