-- ==== Sys2Proof/Machine/Messages.lean ====
section
/-! DEFINITION. The bytes of the messages the part sends (R146, R155, R157). -/

namespace Sys2Proof.Machine

/-- Mode codes (R157). -/
def Mode.code : Mode → Nat
  | .loading => 0
  | .standby => 1
  | .priming => 2
  | .governing => 3
  | .holding => 4

/-- Restart cause codes (R157). -/
def RestartCause.code : RestartCause → Nat
  | .power => 0
  | .line => 1
  | .command _ => 2

/-- Check result codes (R157). -/
def CheckResult.code : CheckResult → Nat
  | .none => 0
  | .passed => 1
  | .format => 2
  | .length => 3
  | .crc => 4
  | .record => 5
  | .range => 6
  | .noMeter => 7
  | .noCluster => 8
  | .roleCount => 9
  | .rating => 10
  | .fallback => 11
  | .fallbackSum => 12
  | .lead => 13

/-- Participation codes (R157). -/
def Participation.code : Participation → Nat
  | .absent => 0
  | .engaged => 1
  | .recalling => 2
  | .stale => 3

/-- Stale cause codes, 0 for none (R157). -/
def staleCode : Option StaleCause → Nat
  | none => 0
  | some .silence => 1
  | some .yieldTimeout => 2

/-- LIMIT action codes (R157). -/
def LimitAction.code : LimitAction → Nat
  | .raise => 1
  | .keep => 2
  | .lower => 3
  | .release => 4

/-- NAK reason codes (R157). -/
def NakReason.code : NakReason → Nat
  | .kind => 1
  | .length => 2
  | .role => 3
  | .state => 4
  | .range => 5
  | .listFull => 6
  | .notFound => 7
  | .noRecall => 8
  | .mismatch => 9
  | .config => 10

/-- LIST_CHANGE cause codes (R157). -/
def ListCause.code : ListCause → Nat
  | .pushed => 1
  | .activated => 2
  | .expired => 3
  | .dropped => 4
  | .unbound => 5
  | .discarded => 6
  | .defaultSet => 7

/-- Channel state codes (R157). -/
def ChannelState.code : ChannelState → Nat
  | .off => 0
  | .filling => 1
  | .valid => 2
  | .lost => 3

/-- Entry state codes (R157). -/
def EntryState.code : EntryState → Nat
  | .pending => 0
  | .active => 1

/-- A port field, 255 for no port (R157). -/
def portCode : Option Port → Nat
  | none => 255
  | some p => p.val

/-- A lead channel field, 255 for none (R157). -/
def leadCode : Option ChannelIndex → Nat
  | none => 255
  | some c => c.val

/-- An absent value is sent as 0 (R157). -/
def orZero : Option Int → Int
  | none => 0
  | some v => v

/-- The recall's value and first-send frame, 0 and 0 when it is absent (R157). -/
def recallBytes : Option Recall → List Byte
  | none => bigEndian 3 0 ++ bigEndian 4 0
  | some r => bigEndian 3 r.value ++ bigEndian 4 r.firstSend.toNat

/-- The four detail bytes of a NOTICE (R157). -/
def Notice.detail : Notice → List Byte
  | .modeChange left entered => bigEndian 1 left.code ++ bigEndian 1 entered.code ++ bigEndian 2 0
  | .meterLost channel missLimit => bigEndian 1 channel.val ++ bigEndian 1 missLimit ++ bigEndian 2 0
  | .meterBack channel value => bigEndian 1 channel.val ++ bigEndian 3 value
  | .portStale port cause committed => bigEndian 1 (port.val + 16 * staleCode (some cause)) ++ bigEndian 3 committed
  | .excursion shortfall => bigEndian 4 shortfall
  | .windowConflict amount => bigEndian 4 amount
  | .compliance excess => bigEndian 4 excess
  | .portOverrun port output => bigEndian 1 port.val ++ bigEndian 3 output
  | .channelAlarm channel high value =>
    bigEndian 1 (channel.val + (if high then 16 else 0 : Nat)) ++ bigEndian 3 value
  | .listChange cause port held activePosition =>
    bigEndian 1 cause.code ++ bigEndian 1 (portCode port) ++ bigEndian 1 held ++ bigEndian 1 activePosition

/-- A profile block as sent in a LIST reply (R157). -/
def Profile.bytes (p : Profile) : List Byte :=
  bigEndian 4 p.lup ++ bigEndian 4 p.ldn ++ bigEndian 4 p.sup ++ bigEndian 4 p.sdn ++ bigEndian 2 p.window ++
    bigEndian 2 p.blend ++ bigEndian 1 p.flags ++ bigEndian 4 p.restoreRate ++ bigEndian 1 p.soeTarget

/-- The port of a restart cause: 255 unless the cause is COMMAND (R158). -/
def RestartCause.portCode : RestartCause → Nat
  | .command p => p.val
  | _ => 255

/-- The data of a STATUS reply (R157). -/
def StatusData.bytes (d : StatusData) : List Byte :=
  bigEndian 1 d.mode.code ++ bigEndian 1 d.cause.code ++ bigEndian 1 d.cause.portCode ++ bigEndian 1 d.check.code ++
    bigEndian 4 d.frame.toNat ++ bigEndian 4 d.reference ++ bigEndian 4 d.target ++ bigEndian 4 d.storageNet ++
    bigEndian 4 d.net ++ bigEndian 4 d.exported ++ bigEndian 1 d.activePosition ++ bigEndian 1 (portCode d.activePort) ++
    bigEndian 1 (flagByte [d.latched])

/-- The common part of a PORT reply (R157). -/
def PortRecord.commonBytes (c : PortConfig) (r : PortRecord) : List Byte :=
  bigEndian 1 c.role.code ++ bigEndian 1 r.participation.code ++ bigEndian 1 (staleCode r.cause) ++
    bigEndian 1 (flagByte [r.lastSent.isSome, r.outstanding.isSome, r.staged.isSome, r.desired.isSome, r.overrun]) ++
    bigEndian 3 r.committed ++ bigEndian 3 (orZero r.lastSent) ++ recallBytes r.outstanding ++
    bigEndian 3 (orZero r.staged) ++ bigEndian 3 (orZero r.desired) ++ bigEndian 2 r.reportAge ++ bigEndian 1 r.silence

/-- The role part of a PORT reply (R90, R157). -/
def PortRecord.roleBytes (c : PortConfig) (r : PortRecord) : List Byte :=
  match c.role with
  | .cluster =>
    bigEndian 3 c.rated ++ bigEndian 3 c.fallback ++ bigEndian 1 (leadCode c.lead) ++ bigEndian 3 r.cluster.output ++
      bigEndian 3 r.cluster.available ++ bigEndian 3 r.cluster.applied ++ bigEndian 16 0
  | .storage =>
    bigEndian 3 c.rated ++ bigEndian 3 c.ratedCharge ++ bigEndian 3 c.reserve ++ bigEndian 3 r.storage.applied ++
      bigEndian 3 r.storage.discharge ++ bigEndian 3 r.storage.charge ++ bigEndian 4 r.storage.soe ++
      bigEndian 4 r.storage.capacity ++ bigEndian 3 r.storage.dischargeAvailability ++
      bigEndian 3 r.storage.chargeAvailability
  | .supervisor | .unused => bigEndian 32 0

/-- A HISTORY slot: an absent slot is all 0, and an absent P is 0 with its presence flag clear (R39, R157). -/
def historySlot : Option FrameRecord → List Byte
  | none => bigEndian 18 0
  | some r =>
    bigEndian 1 (flagByte [true, r.measured.isSome]) ++ bigEndian 4 r.number.toNat ++ bigEndian 3 r.reference ++
      bigEndian 3 r.target ++ bigEndian 3 (orZero r.measured) ++ bigEndian 3 r.storageNet ++ bigEndian 1 r.marks.byte

/-- The data of a CHANNEL reply (R75, R157). -/
def Channel.bytes (c : Channel) : List Byte :=
  bigEndian 1 c.config.kind.code ++ bigEndian 1 c.state.code ++
    bigEndian 1 (flagByte [c.value.isSome, c.lowAlarm, c.highAlarm]) ++ bigEndian 3 (orZero c.value) ++
    bigEndian 3 c.track ++ bigEndian 2 c.ratio

/-- The byte "slot present" of a LIST reply whose slot is present, the default slot included. DESIGN CHOICE, unsafe (log entry 20): section 9.6
gives the width of this byte and not its value; the model sends 1, as the flag of a HISTORY slot and of a CHANNEL value has it. -/
def listSlotPresent : Nat := 1

/-- The slot of a LIST reply: present, profile block, pushing port, delay, expiry, state, frames (R54, R157). An absent slot is 0 throughout (R157);
the byte that says a slot is present is the model's choice (log entry 20). -/
def ListSlot.bytes : ListSlot → List Byte
  | .absent => bigEndian 34 0
  | .default p => bigEndian 1 listSlotPresent ++ p.bytes ++ bigEndian 7 0
  | .entry e =>
    bigEndian 1 listSlotPresent ++ e.profile.bytes ++ bigEndian 1 e.port.val ++ bigEndian 1 e.delay ++ bigEndian 2 e.expiry ++
      bigEndian 1 e.state.code ++ bigEndian 2 e.frames

/-- The QUERY target code of a reply's data (R157). -/
def ReplyData.target : ReplyData → Nat
  | .status _ => 0
  | .port .. => 1
  | .history .. => 2
  | .channel _ => 3
  | .list .. => 4
  | .counters _ => 5

/-- The data bytes of a REPLY; COUNTERS data is 48 bytes, the last unused where there are fewer counters (R157). -/
def ReplyData.bytes : ReplyData → List Byte
  | .status d => d.bytes
  | .port c r => r.commonBytes c ++ r.roleBytes c
  | .history a b => historySlot a ++ historySlot b
  | .channel c => c.bytes
  | .list held activePosition slot => bigEndian 1 held ++ bigEndian 1 activePosition ++ slot.bytes
  | .counters values => values.flatMap (fun v => bigEndian 2 v) ++ bigEndian (48 - 2 * values.length) 0

/-- The kind code of a message (R157). -/
def Message.kind : Message → Byte
  | .limit .. => 0x80#8
  | .ack .. => 0x81#8
  | .nak .. => 0x82#8
  | .reply .. => 0x83#8
  | .notice .. => 0x84#8

/-- The payload of a message (R157). -/
def Message.payload : Message → List Byte
  | .limit action value frame => bigEndian 1 action.code ++ bigEndian 4 value ++ bigEndian 4 frame.toNat
  | .ack kind clamped _ => [kind] ++ bigEndian 1 (flagByte [clamped])
  | .nak kind reason => [kind] ++ bigEndian 1 reason.code
  | .reply index data => bigEndian 1 data.target ++ sendField 2 index ++ data.bytes
  | .notice count n => bigEndian 1 n.code ++ bigEndian 1 count ++ n.detail

/-- The frame on the wire: SYNC, KIND, LEN, payload and CHECK (R146). -/
def Message.frame (m : Message) : List Byte := frameBytes m.kind m.payload

end Sys2Proof.Machine
end

