-- ==== Sys2Proof/Machine/Ops.lean ====
section
/-! DEFINITION. The named operations over the part's state: records and links read and written, messages admitted, notices raised,
commitments summed, modes changed, the restart. -/

namespace Sys2Proof.Machine

/-! ### Records, links and channels -/

/-- The port table entry in force of a port. -/
def State.config (s : State) (p : Port) : PortConfig := s.portTable[p]

/-- The Allocation Table record of a port. -/
def State.record (s : State) (p : Port) : PortRecord := s.records[p]

/-- The link port. -/
def State.link (s : State) (p : Port) : LinkPort := s.links[p]

/-- The channel record. -/
def State.channel (s : State) (c : ChannelIndex) : Channel := s.channels[c]

/-- The state with one record replaced. -/
def State.setRecord (s : State) (p : Port) (r : PortRecord) : State := { s with records := s.records.set p r }

/-- The state with one link port replaced. -/
def State.setLink (s : State) (p : Port) (l : LinkPort) : State := { s with links := s.links.set p l }

/-- The state with one channel replaced. -/
def State.setChannel (s : State) (c : ChannelIndex) (ch : Channel) : State := { s with channels := s.channels.set c ch }

/-- The state with every record replaced by what it becomes. -/
def State.mapRecords (s : State) (f : Port → PortRecord → PortRecord) : State :=
  { s with records := Vector.ofFn fun p : Port => f p (s.record p) }

/-- The state with every link port replaced by what it becomes. -/
def State.mapLinks (s : State) (f : Port → LinkPort → LinkPort) : State :=
  { s with links := Vector.ofFn fun p : Port => f p (s.link p) }

/-- The state with every channel replaced by what it becomes. -/
def State.mapChannels (s : State) (f : ChannelIndex → Channel → Channel) : State :=
  { s with channels := Vector.ofFn fun c : ChannelIndex => f c (s.channel c) }

/-- A frame expiry means something in this mode: PRIMING, GOVERNING or HOLDING (R2). -/
def Mode.running : Mode → Bool
  | .priming | .governing | .holding => true
  | .loading | .standby => false

/-- A port whose record enters the Limit Protocol: CLUSTER or STORAGE (section 7.1). -/
def Role.steerable : Role → Bool
  | .cluster | .storage => true
  | .supervisor | .unused => false

/-! ### Supervisory standing and notices -/

/-- The port table in force names a SUPERVISOR port (R140). -/
def State.hasSupervisor (s : State) : Bool := (List.finRange 12).any fun p => (s.config p).role == .supervisor

/-- Open access: in STANDBY, while the port table names no SUPERVISOR port (R140). -/
def State.openAccess (s : State) : Bool := s.mode == .standby && !s.hasSupervisor

/-- The port is taken as supervisory (R140). -/
def State.supervisory (s : State) (p : Port) : Bool := (s.config p).role == .supervisor || s.openAccess

/-- A notice raised at a link that is taken as supervisory: it enters the set only while the link is UP (R159). -/
def LinkPort.raise (l : LinkPort) (n : Notice) : LinkPort :=
  if l.up then { l with notices := addNotice n l.notices } else l

/-- A notice raised into the pending set of every port taken as supervisory whose link is UP (R159). -/
def State.raise (s : State) (n : Notice) : State :=
  s.mapLinks fun p l => if s.supervisory p then l.raise n else l

/-- Notices raised one after the other. -/
def State.raiseAll (s : State) (ns : List Notice) : State := ns.foldl State.raise s

/-- The pending sets of ports that were taken as supervisory and no longer are, emptied (R140). -/
def State.dropFormerSets (s before : State) : State :=
  s.mapLinks fun p l => if before.supervisory p && !s.supervisory p then { l with notices := [] } else l

/-! ### Outgoing queues -/

/-- The newest reply of a queue replaced by `m`, at its position (R154). -/
def replaceNewestReply (m : Message) : List Message → List Message
  | [] => []
  | x :: rest =>
    if rest.any Message.isReply then x :: replaceNewestReply m rest
    else if x.isReply then m :: rest
    else x :: rest

/-- The waiting LIMIT of a queue replaced by `m`, in place (R112, R154). -/
def replaceLimit (m : Message) (queue : List Message) : List Message :=
  queue.map fun x => if x.isLimit then m else x

/-- A message admitted to an outgoing queue (R154). -/
def intoQueue (queue : List Message) (m : Message) : List Message :=
  if m.isLimit && queue.any Message.isLimit then replaceLimit m queue
  else if queue.length < Config.queueCapacity then queue ++ [m]
  else replaceNewestReply m queue

/-- A message queued for a link: it is discarded while the link is DOWN (R150). -/
def LinkPort.enqueue (l : LinkPort) (m : Message) : LinkPort :=
  if l.up then { l with queue := intoQueue l.queue m } else l

/-- A message queued on a port. -/
def State.enqueue (s : State) (p : Port) (m : Message) : State := s.setLink p ((s.link p).enqueue m)

/-- A LIMIT still waiting in the port's queue withdrawn (R126). -/
def State.withdrawLimit (s : State) (p : Port) : State :=
  s.setLink p { s.link p with queue := (s.link p).queue.filter fun m => !m.isLimit }

/-- An ACK of a request queued on the port it arrived on (R151, R157). -/
def State.ack (s : State) (p : Port) (kind : Byte) : State := s.enqueue p (.ack kind false false)

/-- A NAK of a request queued on the port it arrived on (R151, R157). -/
def State.nak (s : State) (p : Port) (kind : Byte) (reason : NakReason) : State := s.enqueue p (.nak kind reason)

/-- An idle transmitter takes the oldest queued message or, with the queue empty, the pending notice of the lowest kind code
(R153, R155). -/
def LinkPort.startSending (l : LinkPort) : LinkPort :=
  match l.transmitter, l.up with
  | .idle, true =>
    match l.queue, l.notices with
    | m :: rest, _ => { l with queue := rest, transmitter := .sending m }
    | [], e :: rest => { l with notices := rest, transmitter := .sending (.notice e.count e.notice) }
    | [], [] => l
  | _, _ => l

/-! ### Commitments -/

/-- The value a port is counted at while it is ABSENT, "fb/0": a cluster's fallback, and 0 for any other port (R108). -/
def PortConfig.rest (c : PortConfig) : Int :=
  match c.role with
  | .cluster => c.fallback
  | _ => 0

/-- The least value a port may be committed to (R109). -/
def PortConfig.least (c : PortConfig) : Int :=
  match c.role with
  | .storage => -c.ratedCharge
  | _ => 0

/-- A value clamped into the port's range (R109, R119, R122). -/
def PortConfig.clampValue (c : PortConfig) (v : Int) : Int := clamp c.least c.rated v

/-- What a committed value counts in the net commitment N (R110). -/
def PortConfig.netShare (c : PortConfig) (v : Int) : Int := if c.role.steerable then v else 0

/-- What a committed value counts in the export commitment X: a cluster at the greater of it and its fallback, storage where it is
above 0 (R110). -/
def PortConfig.exportShare (c : PortConfig) (v : Int) : Int :=
  match c.role with
  | .cluster => max v c.fallback
  | .storage => max v 0
  | _ => 0

/-- A sum over the twelve ports. -/
def portSum (f : Port → Int) : Int := ((List.finRange 12).map f).sum

/-- The net commitment N (R110). -/
def State.netCommitment (s : State) : Int := portSum fun p => (s.config p).netShare (s.record p).committed

/-- The export commitment X (R110). -/
def State.exportCommitment (s : State) : Int := portSum fun p => (s.config p).exportShare (s.record p).committed

/-- The fit rule: the smaller of the target, the net limit c + (R − N) and the export headroom limit (R116). -/
def State.fit (s : State) (p : Port) (target : Int) : Int :=
  let c := (s.record p).committed
  let netLimit := c + (s.reference - s.netCommitment)
  let headroom := (s.config p).exportShare c + (s.site.exportLimit - s.exportCommitment)
  min target (min netLimit headroom)

/-! ### LIMIT messages -/

/-- A LIMIT queued for a port with the frame number of the last expiry; its value becomes the last-sent value (R3, R112). -/
def State.sendLimit (s : State) (p : Port) (action : LimitAction) (value : Int) : State :=
  (s.setRecord p { s.record p with lastSent := some value }).enqueue p (.limit action value s.frameNumber)

/-- KEEP at the committed value (R112). -/
def State.sendKeep (s : State) (p : Port) : State := s.sendLimit p .keep (s.record p).committed

/-- RAISE at a granted value, which becomes the committed value in the same step (R116). -/
def State.sendRaise (s : State) (p : Port) (granted : Int) : State :=
  (s.setRecord p { s.record p with committed := granted }).sendLimit p .raise granted

/-- A staged raise served: granted in full it ends, granted in part it stands with the same target, and without a grant nothing is
sent (R128). -/
def State.serveStaged (s : State) (p : Port) : State :=
  let r := s.record p
  match r.staged, r.outstanding, r.participation with
  | some target, none, .engaged =>
    let g := s.fit p target
    if r.committed < g then
      let raised := s.sendRaise p g
      if target ≤ g then raised.setRecord p { raised.record p with staged := none } else raised
    else s
  | _, _, _ => s

/-- A budget release: the staged raises served in the current sweep order, walked once (R128). -/
def State.budgetRelease (s : State) : State := s.sweepOrder.foldl State.serveStaged s

/-- A budget release where the port's committed value has fallen below what it was (R122, R125, R126). -/
def State.releaseIfFallen (s : State) (p : Port) (was : Int) : State :=
  if (s.record p).committed < was then s.budgetRelease else s

/-! ### Records at the events of R108 -/

/-- The storage fields a record is initialised with (R76). -/
def StorageReport.initial : StorageReport := ⟨0, 0, 0, 0, 0, 0, 0⟩

/-- A record as a JOIN leaves it: ENGAGED at fb/0 (R108, R125). -/
def PortRecord.joined (c : PortConfig) (r : PortRecord) : PortRecord :=
  { r with
    participation := .engaged
    committed := c.rest
    lastSent := some c.rest
    outstanding := none
    staged := none
    desired := none
    cluster := ⟨c.rest, c.rest, c.rest⟩
    storage := StorageReport.initial
    reportAge := 0
    silence := 0
    cause := none
    overrun := false
    overrunRun := 0 }

/-- A record as a LEAVE or STANDBY entry leaves it: ABSENT at fb/0, its report fields kept (R108, R126, R127). -/
def PortRecord.left (c : PortConfig) (r : PortRecord) : PortRecord :=
  { r with
    participation := .absent
    committed := c.rest
    lastSent := none
    outstanding := none
    staged := none
    desired := none
    cause := none
    overrun := false
    overrunRun := 0 }

/-- A port is already silent: STALE with cause SILENCE (R121). -/
def PortRecord.silent (r : PortRecord) : Bool := r.participation == .stale && r.cause == some .silence

/-- Silence acts on an ENGAGED, RECALLING or STALE (YIELD_TIMEOUT) port (R121). -/
def PortRecord.canFallSilent (r : PortRecord) : Bool := r.participation != .absent && !r.silent

/-- The committed value of a silent port: a cluster's raised to its fallback, a storage port's to 0 (R121). -/
def PortConfig.silentValue (c : PortConfig) (v : Int) : Int := max v c.rest

/-- A record as silence leaves it (R121). -/
def PortRecord.silenced (c : PortConfig) (r : PortRecord) : PortRecord :=
  { r with
    participation := .stale
    cause := some .silence
    committed := c.silentValue r.committed
    staged := none }

/-- The notice of an entry into STALE (R131). -/
def PortRecord.staleNotice (p : Port) (cause : StaleCause) (r : PortRecord) : Notice := .portStale p cause r.committed

/-- Silence delivered by the loss of a link (R121, R150). -/
def State.silencePort (s : State) (p : Port) : State :=
  if (s.record p).canFallSilent then
    let r := (s.record p).silenced (s.config p)
    (s.setRecord p r).raise (r.staleNotice p .silence)
  else s

/-! ### The Profile List -/

/-- The position of the newest ACTIVE entry, 0 when none is ACTIVE (R42, R52). -/
def activePosition : List Entry → Nat
  | [] => 0
  | e :: rest =>
    match activePosition rest with
    | 0 => if e.state = .active then 1 else 0
    | n + 1 => n + 2

/-- The newest ACTIVE entry (R42). -/
def activeEntry (entries : List Entry) : Option Entry := (entries.filter fun e => e.state == .active).getLast?

/-- The active profile: the newest ACTIVE entry's, or the default (R42). -/
def State.activeProfile (s : State) : Profile :=
  match activeEntry s.entries with
  | some e => e.profile
  | none => s.defaultProfile

/-- LIST_CHANGE with the list as it stands (R52). -/
def State.listChange (s : State) (cause : ListCause) (port : Option Port) : State :=
  s.raise (.listChange cause port s.entries.length (activePosition s.entries))

/-! ### The sweep -/

/-- SEQUENTIAL order: (s + k) mod 12 for k = 0 … 11 (R95). -/
def sequentialOrder (start : Port) : List Port := (List.finRange 12).map fun k => start + k

/-- INTERLEAVED order: s XOR k for k = 0 … 15, results of 12 to 15 passed over (R96). -/
def interleavedOrder (start : Port) : List Port := (List.range 16).filterMap fun k => portOf (start.val ^^^ k)

/-- The sweep order from a start (R95, R96). -/
def sweepOrderOf (mode : SweepMode) (start : Port) : List Port :=
  match mode with
  | .sequential => sequentialOrder start
  | .interleaved => interleavedOrder start

/-- The value the LFSR takes when the seed is 0, and at power-on (R91). -/
def lfsrStart : BitVec 16 := 0x5A5A#16

/-- The LFSR loaded from the site record's seed (R91). -/
def seededLfsr (seed : BitVec 16) : BitVec 16 := if seed = 0 then lfsrStart else seed

/-! ### Modes -/

/-- A change of mode: the sets of ports that cease to be supervisory are emptied, and MODE_CHANGE is raised (R134, R140). -/
def State.changeMode (s : State) (m : Mode) : State :=
  (State.dropFormerSets { s with mode := m } s).raise (.modeChange s.mode m)

/-- A channel at PRIMING entry: restarted, its alarms and its counter as they stand, and an OFF channel left as it is (R66). -/
def Channel.restarted (c : Channel) : Channel :=
  if c.state = .off then c
  else
    { c with
      state := .filling
      skipCounter := 0
      group := []
      buffer := []
      value := none
      missingRun := 0
      lossMark := false
      track := 0
      ratio := 256 }

/-- PRIMING entry, by MODE RUN or at the end of LOADING (R1, R2, R26, R57, R66, R91, R141). -/
def State.enterPriming (s : State) : State :=
  let governor :=
    { s with
      frameTimer := .running s.site.framePeriod
      frameNumber := 0
      primingCounter := 0
      reference := 0
      target := 0
      storageNet := 0
      ring := []
      windowBase := 1
      sinceBase := 0
      reseedPending := false
      complianceLatched := false
      scanTimer := .running s.site.scanPeriod
      sweepStart := 0
      sweepLfsr := seededLfsr s.site.seed
      sweepOrder := sweepOrderOf s.site.sweepMode 0 }
  ((governor.mapChannels fun _ c => c.restarted).mapRecords fun _ r => { r with desired := none }).changeMode .priming

/-- RELEASE to a port that is not ABSENT, carrying fb or 0 (R127). -/
def State.releasePort (s : State) (p : Port) : State :=
  if (s.record p).participation = .absent then s
  else s.enqueue p (.limit .release (s.config p).rest s.frameNumber)

/-- STANDBY entry (R1, R2, R51, R57, R59, R91, R127, R129, R142). -/
def State.enterStandby (s : State) : State :=
  let released := (List.finRange 12).foldl State.releasePort s
  let absent := released.mapRecords fun p r => r.left (s.config p)
  let stopped := { absent with frameTimer := .stopped, scanTimer := .stopped, scan := none, entries := [] }
  let discarded := if s.entries.isEmpty then stopped else stopped.listChange .discarded none
  discarded.changeMode .standby

/-- HOLDING entry at a meter loss in GOVERNING: staged raises discarded, HOLDING entries advanced (R23, R129, R134, R143). -/
def State.enterHolding (s : State) : State :=
  let discarded := s.mapRecords fun _ r => { r with staged := none }
  { discarded with holdingEntries := advance s.holdingEntries }.changeMode .holding

/-- The restart of power-on, the reset line and RESTART: every block at its start values, the cause recorded, LOADING begun; the
commands that wait and the model's own count go on (R133). -/
def State.restarted (s : State) (cause : RestartCause) : State :=
  { State.reset with restartCause := cause, openChoices := s.openChoices, pending := s.pending }

/-! ### The end of an event -/

/-- The ACK that restart pending waits on still waits in the queue or is being sent (R144). -/
def LinkPort.holdsRestartAck (l : LinkPort) : Bool :=
  l.queue.any Message.isRestartAck ||
    match l.transmitter with
    | .sending m => m.isRestartAck
    | .idle => false

/-- The port of a pending RESTART whose ACK has left or been removed unsent (R144). -/
def State.restartDue (s : State) : Option Port :=
  match s.restartPending with
  | some p => if (s.link p).holdsRestartAck then none else some p
  | none => none

/-- The restart of R144 taken where it is due. -/
def State.takeRestart (s : State) : State :=
  match s.restartDue with
  | some p => s.restarted (.command p)
  | none => s

/-- What follows every event once its effect is whole: idle transmitters take what waits (R153, log entry 7), and a restart that
has come due is taken (R144, log entry 8). -/
def State.settle (s : State) : State := (s.mapLinks fun _ l => l.startSending).takeRestart

end Sys2Proof.Machine
end

