-- ==== Sys2Proof/Machine/History.lean ====
section
/-! DEFINITION. The History Ring: the window, the append and the compliance check (chapter 2). The ring is held newest first. -/

namespace Sys2Proof.Machine

/-- The least of a value and of a list's values. -/
def leastOf (v : Int) (vs : List Int) : Int := vs.foldl min v

/-- The greatest of a value and of a list's values. -/
def greatestOf (v : Int) (vs : List Int) : Int := vs.foldl max v

/-- The references of the window set: the newest min(W, since-base count) records (R30). -/
def State.windowReferences (s : State) (window : Nat) : List Int :=
  (s.ring.take (min window s.sinceBase)).map FrameRecord.reference

/-- The lowest of a list, or a stand-in where the list is empty. -/
def lowest (standIn : Int) : List Int → Int
  | [] => standIn
  | v :: vs => leastOf v vs

/-- The highest of a list, or a stand-in where the list is empty. -/
def highest (standIn : Int) : List Int → Int
  | [] => standIn
  | v :: vs => greatestOf v vs

/-- minW: the lowest reference of the window set, or R where the set is empty (R14, R30). -/
def State.windowMin (s : State) (window : Nat) : Int := lowest s.reference (s.windowReferences window)

/-- maxW: the highest reference of the window set, or R where the set is empty (R14, R30). -/
def State.windowMax (s : State) (window : Nat) : Int := highest s.reference (s.windowReferences window)

/-- A reseed taken by the History Ring: the window base at the frame being taken, or 1 in PRIMING, no record since it, and RESEED
due on the next record (R29, R31). -/
def State.reseed (s : State) : State :=
  { s with
    windowBase := if s.mode = .priming then 1 else s.frameNumber
    sinceBase := 0
    reseedPending := true }

/-- The compliance excess of a measured export `p` against the exports of the compliance set, itself among them; none where the
check passes (R33, R34). -/
def complianceExcess (profile : Profile) (tolerance p : Int) (exports : List Int) : Option Int :=
  let rise := p - leastOf p exports
  let fall := greatestOf p exports - p
  let overRise := rise - (profile.lup + tolerance)
  let overFall := fall - (profile.ldn + tolerance)
  if 0 < overRise ∨ 0 < overFall then some (max overRise overFall) else none

/-- The measured exports of the newest min(W, since-base count) records (R33). -/
def complianceSet (ring : List FrameRecord) (window sinceBase : Nat) : List Int :=
  (ring.take (min window sinceBase)).filterMap FrameRecord.measured

/-- The append of a record, without its compliance check (R28, steps 1 to 4). -/
def State.pushRecord (s : State) (r : FrameRecord) : State :=
  let marked := if s.reseedPending then { r with marks := { r.marks with reseed := true } } else r
  { s with
    reseedPending := false
    ring := (marked :: s.ring).take Config.ringCapacity
    sinceBase := countUp Config.ringCapacity s.sinceBase }

/-- The newest record given the COMPLIANCE mark (R34). -/
def markCompliance : List FrameRecord → List FrameRecord
  | [] => []
  | r :: rest => { r with marks := { r.marks with compliance := true } } :: rest

/-- The compliance check of the newest record (R28, step 5; R33 to R35). -/
def State.checkCompliance (s : State) (profile : Profile) (measured : Option Int) : State :=
  match measured with
  | none => s
  | some p =>
    match complianceExcess profile s.site.tolerance p (complianceSet s.ring profile.window s.sinceBase) with
    | none => { s with complianceLatched := false }
    | some excess =>
      let marked := { s with ring := markCompliance s.ring, complianceLatched := true }
      if s.complianceLatched then marked
      else { marked with complianceEpisodes := advance s.complianceEpisodes }.raise (.compliance excess)

/-- The append of a frame's record, with its compliance check (R28). -/
def State.appendRecord (s : State) (profile : Profile) (r : FrameRecord) : State :=
  (s.pushRecord r).checkCompliance profile r.measured

/-- The record at a position from the newest, 0 the newest (R38). -/
def State.recordAt (s : State) (position : Nat) : Option FrameRecord := s.ring[position]?

end Sys2Proof.Machine
end

