-- ==== Sys2Proof/Machine/Profiles.lean ====
section
/-! DEFINITION. The Profile List: pushes, drops, and the counting of activation delays and expiries (chapter 3). -/

namespace Sys2Proof.Machine

/-- What a frame expiry makes of an entry: the entry as it stands after it, or none where it has run out; the change to report; and
whether it hands a reseed to the History Ring (R46 to R48). -/
structure EntryTick where
  entry : Option Entry
  change : Option (ListCause × Port)
  reseed : Bool
deriving DecidableEq, Repr

/-- An entry at a frame expiry (R46 to R48). -/
def Entry.tick (e : Entry) : EntryTick :=
  match e.state with
  | .pending =>
    if e.frames = 0 then
      { entry := some { e with state := .active, frames := e.expiry, profile := { e.profile with reseed := false } }
        change := some (.activated, e.port)
        reseed := e.profile.reseed }
    else { entry := some { e with frames := e.frames - 1 }, change := none, reseed := false }
  | .active =>
    if e.expiry = 0 then { entry := some e, change := none, reseed := false }
    else if e.frames ≤ 1 then { entry := none, change := some (.expired, e.port), reseed := false }
    else { entry := some { e with frames := e.frames - 1 }, change := none, reseed := false }

/-- The entries after a frame expiry's list work (R49). -/
def tickedEntries (entries : List Entry) : List Entry := entries.filterMap fun e => e.tick.entry

/-- The changes a frame expiry's list work reports, from the oldest entry concerned to the newest (R52). -/
def tickedChanges (entries : List Entry) : List (ListCause × Port) := entries.filterMap fun e => e.tick.change

/-- The Profile List brought up to date at a frame expiry: the entries from the oldest to the newest, a reseed handed on, and the
changes reported with the list as it stands when the whole of the work is done (R46 to R49, R52). -/
def State.updateList (s : State) : State :=
  let listed := { s with entries := tickedEntries s.entries }
  let reseeded := if s.entries.any fun e => e.tick.reseed then listed.reseed else listed
  (tickedChanges s.entries).foldl (fun t (change : ListCause × Port) => t.listChange change.1 (some change.2)) reseeded

/-- The entry at a position of the list, 1 the oldest (section 3.3). -/
def entryAt (entries : List Entry) (position : Nat) : Option Entry := if position = 0 then none else entries[position - 1]?

/-- The entry a PUSH appends: its fields clamped, PENDING with its delay to run (R43, R44). -/
def pushedEntry (p : Port) (block : ProfileBlock) (delay : Byte) (expiry : BitVec 16) : Entry where
  profile := (profileOf block).clamped
  port := p
  delay := delay.toNat
  expiry := expiry.toNat
  state := .pending
  frames := delay.toNat

/-- The newest entry pushed from a port removed; none where the list holds no entry of it (R45). -/
def dropNewest (p : Port) : List Entry → Option (List Entry)
  | [] => none
  | e :: rest =>
    match dropNewest p rest with
    | some rest' => some (e :: rest')
    | none => if e.port = p then some rest else none

/-- The oldest BOUND entry pushed from a port removed; none where the list holds none (R50). -/
def unbindOldest (p : Port) : List Entry → Option (List Entry)
  | [] => none
  | e :: rest => if e.port = p ∧ e.profile.bound = true then some rest else (unbindOldest p rest).map (e :: ·)

/-- BOUND entries of a port removed one by one, UNBOUND raised for each (R50). -/
def State.unbindTimes (p : Port) : Nat → State → State
  | 0, s => s
  | n + 1, s =>
    match unbindOldest p s.entries with
    | none => s
    | some rest => State.unbindTimes p n ({ s with entries := rest }.listChange .unbound (some p))

/-- Every BOUND entry of a port removed at the loss of its link (R50). -/
def State.unbind (s : State) (p : Port) : State := State.unbindTimes p s.entries.length s

end Sys2Proof.Machine
end

