-- ==== Sys2Proof/Machine/Storage.lean ====
section
/-! DEFINITION. The Storage Split: availabilities, sums, and the division of the storage net target (chapter 5). -/

namespace Sys2Proof.Machine

/-- A port taking part in a division: its share so far and the most it may be given. -/
structure Share where
  port : Port
  given : Int
  most : Int
deriving DecidableEq, Repr

/-- A remainder given one kilowatt at a time, in order, to the shares below their most; what is left of it stands beside them
(section 1.9, R101). -/
def walkOnce : Int → List Share → Int × List Share
  | left, [] => (left, [])
  | left, x :: rest =>
    if 0 < left ∧ x.given < x.most then
      let (left', rest') := walkOnce (left - 1) rest
      (left', { x with given := x.given + 1 } :: rest')
    else
      let (left', rest') := walkOnce left rest
      (left', x :: rest')

/-- The walk begun again from its start while kilowatts remain, at most `times` times (R85, R86). -/
def walkAgain : Nat → Int → List Share → List Share
  | 0, _, xs => xs
  | times + 1, left, xs =>
    if 0 < left then
      let (left', xs') := walkOnce left xs
      walkAgain times left' xs'
    else xs

/-- The sum of the shares given. -/
def sumGiven (xs : List Share) : Int := (xs.map Share.given).sum

/-- Each member given floor(amount × weight / total), and at most its most (R85, R86, R101). -/
def floorShares (amount total : Int) (members : List (Port × Int)) : List Share :=
  members.map fun (m : Port × Int) => { port := m.1, given := amount * m.2 / total, most := m.2 }

/-- A port a division of the frame takes in: ENGAGED or RECALLING (R78, R98). -/
def PortRecord.active (r : PortRecord) : Bool := r.participation == .engaged || r.participation == .recalling

/-- A storage port that is ENGAGED or RECALLING. -/
def State.activeStorage (s : State) (p : Port) : Bool := (s.config p).role == .storage && (s.record p).active

/-- The discharge availability d_k (R78). -/
def dischargeAvailability (c : PortConfig) (r : StorageReport) : Int :=
  if r.soe ≤ c.reserve then 0 else min r.discharge c.rated

/-- The charge availability e_k (R79). -/
def chargeAvailability (c : PortConfig) (r : StorageReport) : Int :=
  if r.capacity ≤ r.soe then 0 else min r.charge c.ratedCharge

/-- d_k and e_k formed at a GOVERNING expiry for each ENGAGED or RECALLING storage port (R78, R79). -/
def State.formAvailabilities (s : State) : State :=
  s.mapRecords fun p r =>
    if s.activeStorage p then
      { r with
        storage :=
          { r.storage with
            dischargeAvailability := dischargeAvailability (s.config p) r.storage
            chargeAvailability := chargeAvailability (s.config p) r.storage } }
    else r

/-- A sum over the ENGAGED and RECALLING storage ports. -/
def State.storageSum (s : State) (f : StorageReport → Int) : Int :=
  portSum fun p => if s.activeStorage p then f (s.record p).storage else 0

/-- Dmax_e (R80). -/
def State.engagedDischarge (s : State) : Int := s.storageSum StorageReport.dischargeAvailability

/-- Cmax_e (R80). -/
def State.engagedCharge (s : State) : Int := s.storageSum StorageReport.chargeAvailability

/-- s_fix: the committed values of the STALE storage ports (R82). -/
def State.fixedStorage (s : State) : Int :=
  portSum fun p =>
    if (s.config p).role = .storage ∧ (s.record p).participation = .stale then (s.record p).committed else 0

/-- Dmax (R80). -/
def State.greatestDischarge (s : State) : Int := s.engagedDischarge + s.fixedStorage

/-- The restore threshold: floor(total capacity × SoE target / 100) (R83). -/
def restoreThreshold (profile : Profile) (totalCapacity : Int) : Int := totalCapacity * profile.soeTarget / 100

/-- The ENGAGED and RECALLING storage ports of an order with a figure of each. -/
def State.storageMembers (s : State) (f : StorageReport → Int) : List (Port × Int) :=
  (s.sweepOrder.filter s.activeStorage).map fun p => (p, f (s.record p).storage)

/-- A division of an amount among weighted members, the remainder walked in order and begun again while it lasts (R85, R86). -/
def divideAmong (amount : Int) (members : List (Port × Int)) : List Share :=
  let total := (members.map Prod.snd).sum
  let floors := floorShares amount total members
  let left := amount - sumGiven floors
  walkAgain left.toNat left floors

/-- The engaged target S_e (R84). -/
def State.engagedTarget (s : State) (net : Int) : Int :=
  clamp (-s.engagedCharge) s.engagedDischarge (net - s.fixedStorage)

/-- The desired setpoints of the engaged storage ports (R84 to R86). -/
def State.setpoints (s : State) (engagedTarget : Int) : List (Port × Int) :=
  if 0 < engagedTarget then
    (divideAmong engagedTarget (s.storageMembers StorageReport.dischargeAvailability)).map fun x => (x.port, x.given)
  else if engagedTarget < 0 then
    (divideAmong (-engagedTarget) (s.storageMembers StorageReport.chargeAvailability)).map fun x => (x.port, -x.given)
  else (s.sweepOrder.filter s.activeStorage).map fun p => (p, 0)

/-- The figure a list gives a port. -/
def lookupPort (p : Port) : List (Port × Int) → Option Int
  | [] => none
  | (q, v) :: rest => if q = p then some v else lookupPort p rest

/-- Desired values written to the ports of a role: those of the list, and absent for every other port of the role (R82, R87,
R105). -/
def State.writeDesired (s : State) (role : Role) (values : List (Port × Int)) : State :=
  s.mapRecords fun p r => if (s.config p).role = role then { r with desired := lookupPort p values } else r

/-- The actual net storage S_act for a storage net target (R87). -/
def State.actualNet (s : State) (net : Int) : Int := s.engagedTarget net + s.fixedStorage

/-- The split of a storage net target (R84 to R87). -/
def State.splitStorage (s : State) (net : Int) : State := s.writeDesired .storage (s.setpoints (s.engagedTarget net))

end Sys2Proof.Machine
end

