-- ==== Sys2Proof/Machine/Allocator.lean ====
section
/-! DEFINITION. The Allocator: the sweep start, the division of the cluster budget, the classification, and the LIMIT messages of a
frame (chapters 6 and 7). -/

namespace Sys2Proof.Machine

/-- One step of the sweep LFSR (R94). -/
def lfsrStep (r : BitVec 16) : BitVec 16 := if r.getLsbD 0 then (r >>> 1) ^^^ 0xB400#16 else r >>> 1

/-- The sweep start advanced and the frame's sweep order formed (R92). -/
def State.advanceSweep (s : State) : State :=
  let lfsr := if s.site.startMode = .random then lfsrStep s.sweepLfsr else s.sweepLfsr
  let start : Port := if s.site.startMode = .random then Fin.ofNat 12 lfsr.toNat else s.sweepStart + 1
  { s with sweepLfsr := lfsr, sweepStart := start, sweepOrder := sweepOrderOf s.site.sweepMode start }

/-- An active cluster with its forecast and its rated power (R98). -/
structure ActiveCluster where
  port : Port
  forecast : Int
  rated : Int
deriving DecidableEq, Repr

/-- The proportional case: c* = floor(B_a × F / ΣF), then the remainder walked once below each forecast (R101). -/
def divideProportional (budget sumForecast : Int) (clusters : List ActiveCluster) : List Share :=
  let floors := floorShares budget sumForecast (clusters.map fun c => (c.port, c.forecast))
  (walkOnce (budget - sumGiven floors) floors).2

/-- The spare case where the spare is less than ΣQ: the forecast and floor(spare × Q / ΣQ), then the remainder walked once below
each rating (R102). -/
def divideSpare (budget spare sumUnused : Int) (clusters : List ActiveCluster) : List Share :=
  let floors :=
    clusters.map fun c =>
      { port := c.port, given := c.forecast + spare * (c.rated - c.forecast) / sumUnused, most := c.rated : Share }
  (walkOnce (budget - sumGiven floors) floors).2

/-- The desired ceilings of the active set for an active budget (R100 to R104). -/
def divideBudget (budget : Int) (clusters : List ActiveCluster) : List (Port × Int) :=
  let sumForecast := (clusters.map ActiveCluster.forecast).sum
  let sumUnused := (clusters.map fun c => c.rated - c.forecast).sum
  let spare := budget - sumForecast
  if budget ≤ sumForecast then
    if 0 < sumForecast then (divideProportional budget sumForecast clusters).map fun x => (x.port, x.given)
    else clusters.map fun c => (c.port, 0)
  else if sumUnused = 0 then clusters.map fun c => (c.port, c.forecast)
  else if sumUnused ≤ spare then clusters.map fun c => (c.port, c.rated)
  else (divideSpare budget spare sumUnused clusters).map fun x => (x.port, x.given)

/-- A cluster port whose participation is this (R98). -/
def State.isCluster (s : State) (p : Port) : Bool := (s.config p).role == .cluster

/-- The irradiance ratio a cluster is forecast with: 256 where anticipation does not apply (R9). -/
def State.leadRatio (s : State) (profile : Profile) (p : Port) : Int :=
  if profile.anticipate then
    match (s.config p).lead with
    | none => 256
    | some c => if (s.channel c).state = .valid then (s.channel c).ratio else 256
  else 256

/-- The forecast available F_i (R9). -/
def State.forecast (s : State) (profile : Profile) (p : Port) : Int :=
  (s.record p).cluster.available * s.leadRatio profile p / 256

/-- The figure a cluster enters the target with (R8). -/
def State.targetFigure (s : State) (profile : Profile) (p : Port) : Int :=
  if s.isCluster p then
    match (s.record p).participation with
    | .engaged | .recalling => s.forecast profile p
    | .stale => (s.record p).cluster.output
    | .absent => (s.config p).fallback
  else 0

/-- What the STALE and ABSENT clusters are counted at: ΣO + Σfb (R99). -/
def State.unsteeredFigure (s : State) (profile : Profile) : Int :=
  portSum fun p => if (s.record p).active then 0 else s.targetFigure profile p

/-- The active set in the frame's sweep order, with its forecasts (R98). -/
def State.activeSet (s : State) (profile : Profile) : List ActiveCluster :=
  (s.sweepOrder.filter fun p => s.isCluster p && (s.record p).active).map fun p =>
    { port := p, forecast := s.forecast profile p, rated := (s.config p).rated }

/-- The active budget B_a (R99). -/
def State.activeBudget (s : State) (profile : Profile) (budget : Int) : Int :=
  max 0 (budget - s.unsteeredFigure profile)

/-- The cluster budget divided and the desired ceilings written (R98 to R105). -/
def State.allocate (s : State) (profile : Profile) (budget : Int) : State :=
  s.writeDesired .cluster (divideBudget (s.activeBudget profile budget) (s.activeSet profile))

/-! ### Classification -/

/-- The class of a port at a GOVERNING expiry, with the desired value it was judged by (R106). -/
inductive Class where
  | lower (desired : Int)
  | keep (desired : Int)
  | raise (desired : Int)
  | stale
deriving DecidableEq, Repr

/-- The class of a record; none for a port that is not handed on (R106, R107). -/
def PortRecord.classify (r : PortRecord) : Option Class :=
  match r.participation, r.desired with
  | .absent, _ => none
  | .stale, _ => some .stale
  | _, none => none
  | _, some d =>
    if d < r.committed then some (.lower d)
    else if d = r.committed then some (.keep d)
    else some (.raise d)

/-- The classified list in the frame's sweep order: each port not ABSENT once (R107). -/
def State.classified (s : State) : List (Port × Class) :=
  s.sweepOrder.filterMap fun p => ((s.record p).classify).map fun c => (p, c)

/-! ### Emission -/

/-- LOWER at an outstanding recall's value (R115, R118). -/
def State.sendLower (s : State) (p : Port) (value : Int) : State := s.sendLimit p .lower value

/-- A recall created at a desired value, with the current frame as its first-send frame (R115). -/
def State.openRecall (s : State) (p : Port) (desired : Int) : State :=
  (s.setRecord p
    { s.record p with outstanding := some ⟨desired, s.frameNumber⟩, participation := .recalling }).sendLower p desired

/-- The first pass at one port: every lower and keep (R115). -/
def State.firstPassAt (s : State) (item : Port × Class) : State :=
  let p := item.1
  let r := s.record p
  match item.2, r.outstanding with
  | .lower d, none => s.openRecall p d
  | .lower d, some recalled =>
    if d < recalled.value then
      (s.setRecord p { r with outstanding := some { recalled with value := d } }).sendLower p d
    else s.sendLower p recalled.value
  | .keep d, some recalled => (s.setRecord p { r with staged := some d }).sendLower p recalled.value
  | .raise d, some recalled => (s.setRecord p { r with staged := some d }).sendLower p recalled.value
  | .keep _, none => s.sendKeep p
  | .raise _, none => s
  | .stale, none => s.sendKeep p
  | .stale, some recalled => s.sendLower p recalled.value

/-- A raise granted as far as it fits, the rest staged (R116, R117). -/
def State.grantRaise (s : State) (p : Port) (desired : Int) : State :=
  let g := s.fit p desired
  let granted := if (s.record p).committed < g then s.sendRaise p g else s.sendKeep p
  if desired ≤ g then granted else granted.setRecord p { granted.record p with staged := some desired }

/-- The second pass at one port: a raise without an outstanding recall (R117). -/
def State.secondPassAt (s : State) (item : Port × Class) : State :=
  match item.2, (s.record item.1).outstanding with
  | .raise d, none => s.grantRaise item.1 d
  | _, _ => s

/-- The emission of a GOVERNING frame: the staged raises of the previous frame discarded, then the two passes (R107, R115, R117,
R129). -/
def State.emitFrame (s : State) : State :=
  let fresh := s.mapRecords fun _ r => { r with staged := none }
  let list := fresh.classified
  list.foldl State.secondPassAt (list.foldl State.firstPassAt fresh)

/-- KEEP at the committed value, or LOWER at the outstanding recall's value (R118). -/
def State.holdAt (s : State) (p : Port) : State :=
  match (s.record p).participation, (s.record p).outstanding with
  | .absent, _ => s
  | _, some recalled => s.sendLower p recalled.value
  | _, none => s.sendKeep p

/-- The emission of a held frame (R22, R118). -/
def State.emitHeld (s : State) : State := s.sweepOrder.foldl State.holdAt s

/-- KEEP to a port that is ENGAGED (R118). -/
def State.primeAt (s : State) (p : Port) : State :=
  if (s.record p).participation = .engaged then s.sendKeep p else s

/-- The emission of a PRIMING frame (R5, R118). -/
def State.emitPriming (s : State) : State := s.sweepOrder.foldl State.primeAt s

end Sys2Proof.Machine
end

