-- ==== Sys2Proof/Machine/Governor.lean ====
section
/-! DEFINITION. The Ramp Governor: the stages of the reference, the storage net target, the timeouts and silence counted at an expiry,
and the three kinds of frame (chapter 1, R113, R114). -/

namespace Sys2Proof.Machine

/-! ### The stages of the reference (section 1.4) -/

/-- The blended value: R + trunc(b × (T − R) / 256), truncated toward zero (R13). -/
def blend (b reference target : Int) : Int := reference + (b * (target - reference)).tdiv 256

/-- The upper bound as formed (R14). -/
def upperBound (profile : Profile) (limit reference minW : Int) : Int :=
  min (min (minW + profile.lup) (reference + profile.sup)) limit

/-- The lower bound as formed (R14). -/
def lowerBound (profile : Profile) (reference maxW : Int) : Int :=
  max (max (maxW - profile.ldn) (reference - profile.sdn)) 0

/-- What the stages of the reference give: R′, the amount of a window conflict, the shortfall of an excursion. -/
structure Stages where
  reference : Int
  conflict : Option Int
  shortfall : Option Int
deriving DecidableEq, Repr

/-- Blend, bounds, clamp and feasibility (R13 to R17). -/
def stages (profile : Profile) (limit reference target greatestDischarge minW maxW : Int) : Stages :=
  let hiFormed := upperBound profile limit reference minW
  let loFormed := lowerBound profile reference maxW
  let conflict := if hiFormed < loFormed then some (loFormed - hiFormed) else none
  let hi := if hiFormed < loFormed then reference else hiFormed
  let lo := if hiFormed < loFormed then reference else loFormed
  let limited := min (max (blend profile.blend reference target) lo) hi
  let deliverable := target + greatestDischarge
  if limited ≤ deliverable then { reference := limited, conflict := conflict, shortfall := none }
  else
    { reference := deliverable
      conflict := conflict
      shortfall := if deliverable < lo then some (lo - deliverable) else none }

/-- The storage net target S (R18). -/
def storageNetTarget (profile : Profile) (reference target totalSoe totalCapacity chargeLimit : Int) : Int :=
  if target < reference then reference - target
  else if profile.restore = true ∧ totalSoe < restoreThreshold profile totalCapacity then
    -(min profile.restoreRate (min chargeLimit (target - reference)))
  else 0

/-! ### Inputs -/

/-- The POI_POWER channel (R141 allows exactly one). -/
def State.meter (s : State) : Option Channel :=
  ((List.finRange 16).map s.channel).find? fun c => c.config.kind == .poiPower

/-- The POI_POWER channel's current value where the channel is VALID (R21). -/
def State.measuredPower (s : State) : Option Int :=
  match s.meter with
  | some c => if c.state = .valid then c.value else none
  | none => none

/-- The target T (R10). -/
def State.targetPower (s : State) (profile : Profile) : Int :=
  min s.site.exportLimit (portSum (s.targetFigure profile))

/-! ### Timeouts and silence at an expiry (section 7.4) -/

/-- The recall of a RECALLING port has stood for the yield limit (R113). -/
def State.recallExpired (s : State) (r : PortRecord) : Bool :=
  match r.participation, r.outstanding with
  | .recalling, some recalled => s.site.yieldLimit ≤ (s.frameNumber - recalled.firstSend).toNat
  | _, _ => false

/-- A record as a yield timeout leaves it (R81, R113). -/
def PortRecord.timedOut (c : PortConfig) (r : PortRecord) : PortRecord :=
  { r with
    participation := .stale
    cause := some .yieldTimeout
    committed := if c.role = .storage then max r.committed 0 else r.committed
    recallTimeouts := advance r.recallTimeouts }

/-- A record and the notices of its entries into STALE, in the order they are raised. -/
abbrev Aged := PortRecord × List Notice

/-- The timeout check of a port, in GOVERNING and HOLDING (R113, R131). -/
def State.checkTimeout (s : State) (p : Port) (r : PortRecord) : Aged :=
  if (s.mode == .governing || s.mode == .holding) && s.recallExpired r then
    let r' := r.timedOut (s.config p)
    (r', [r'.staleNotice p .yieldTimeout])
  else (r, [])

/-- The counts of a record at an expiry: the silence count of a port not ABSENT, the report age of a steerable port (R114). -/
def State.advanceCounts (s : State) (p : Port) (r : PortRecord) : PortRecord :=
  { r with
    silence := if r.participation = .absent then r.silence else countUp s.site.silenceLimit r.silence
    reportAge := if (s.config p).role.steerable then advance r.reportAge else r.reportAge }

/-- The silence check of a port whose counts have advanced (R114, R121, R131). -/
def State.checkSilence (s : State) (p : Port) (r : PortRecord) : Aged :=
  if r.canFallSilent && s.site.silenceLimit ≤ r.silence then
    let r' := r.silenced (s.config p)
    (r', [r'.staleNotice p .silence])
  else (r, [])

/-- A record aged by an expiry: the timeout check before the silence check (R114). -/
def State.aged (s : State) (p : Port) : Aged :=
  let timeout := s.checkTimeout p (s.record p)
  let silence := s.checkSilence p (s.advanceCounts p timeout.1)
  (silence.1, timeout.2 ++ silence.2)

/-- The notices of each port that enters STALE at the expiry. -/
def State.staleNotices (s : State) : List (List Notice) :=
  ((List.finRange 12).map fun p => (s.aged p).2).filter fun ns => !ns.isEmpty

/-- A list with the member at `n` put last. -/
def putLast {α : Type} (n : Nat) (xs : List α) : List α := xs.eraseIdx n ++ (xs[n]?).toList

/-- The PORT_STALE notices in the order they are raised. Where several ports enter STALE at one expiry the manual does not say which
is examined last: the free value `Config.lastStale` picks it (R114, R131, log entry 3).
DESIGN CHOICE (log entry 21): R114's "for each port before the silence check" is read port by port, so that a timeout of one port may be raised
after the silence of another; an order with every port's timeout before any port's silence is one of those allowed. -/
def State.orderedStaleNotices (s : State) : List Notice :=
  match s.staleNotices with
  | [] => []
  | [ns] => ns
  | groups => (putLast (Config.lastStale s.openChoices % groups.length) groups).flatten

/-- Timeouts and silence brought up to date at an expiry (R113, R114). -/
def State.ageRecords (s : State) : State :=
  let counted :=
    { s.mapRecords fun p _ => (s.aged p).1 with
      openChoices := if 2 ≤ s.staleNotices.length then s.openChoices + 1 else s.openChoices }
  counted.raiseAll s.orderedStaleNotices

/-! ### The frames -/

/-- The stages of the reference for the state of an expiry (R13 to R17). -/
def State.stagesNow (s : State) (profile : Profile) (target : Int) : Stages :=
  stages profile s.site.exportLimit s.reference target s.greatestDischarge (s.windowMin profile.window)
    (s.windowMax profile.window)

/-- The counters and the notices of a window conflict and an excursion (R15, R17, R24). -/
def State.reportStages (s : State) (st : Stages) : State :=
  let conflicted :=
    match st.conflict with
    | none => s
    | some amount => { s with windowConflicts := advance s.windowConflicts }.raise (.windowConflict amount)
  match st.shortfall with
  | none => conflicted
  | some amount => { conflicted with excursions := advance conflicted.excursions }.raise (.excursion amount)

/-- The record of a frame (R21). -/
def State.frameRecord (s : State) (marks : Marks) : FrameRecord where
  number := s.frameNumber
  reference := s.reference
  target := s.target
  measured := s.measuredPower
  storageNet := s.storageNet
  marks := marks

/-- The storage net target for the state of an expiry (R18). -/
def State.storageTargetNow (s : State) (profile : Profile) (reference target : Int) : Int :=
  storageNetTarget profile reference target (s.storageSum StorageReport.soe) (s.storageSum StorageReport.capacity)
    s.engagedCharge

/-- The frame computation of a GOVERNING expiry, once the list is up to date and the ports are aged: the sweep advanced, the
availabilities formed, the stages taken, S split, the results committed, the record appended, and B divided and emitted (R10 to R21,
R92, R107). -/
def State.governFrame (s : State) : State :=
  let profile := s.activeProfile
  let ready := s.advanceSweep.formAvailabilities
  let target := ready.targetPower profile
  let st := ready.stagesNow profile target
  let net := ready.storageTargetNow profile st.reference target
  let reported := ready.reportStages st
  let split := reported.splitStorage net
  let committed :=
    { split with reference := st.reference, target := target, storageNet := ready.actualNet net }
  let marks := { Marks.empty with windowConflict := st.conflict.isSome, excursion := st.shortfall.isSome }
  let appended := committed.appendRecord profile (committed.frameRecord marks)
  (appended.allocate profile (st.reference - ready.actualNet net)).emitFrame

/-- The held frame (R22). -/
def State.holdFrame (s : State) : State :=
  let profile := s.activeProfile
  let targeted := { s with target := s.targetPower profile }
  (targeted.appendRecord profile (targeted.frameRecord { Marks.empty with hold := true })).emitHeld

/-- Priming is over at an expiry whose count stands so: the priming frames have elapsed and the meter is VALID (R5). -/
def State.primed (s : State) (count : Nat) : Option Int :=
  if count = s.site.primingFrames then s.measuredPower else none

/-- The end of PRIMING: R seeded from the meter, the window base set to 1, the mode GOVERNING (R6, R26). -/
def State.endPriming (s : State) (power : Int) : State :=
  { s with reference := clamp 0 s.site.exportLimit power, windowBase := 1, sinceBase := 0 }.changeMode .governing

/-- The PRIMING frame (R5, R6). -/
def State.primeFrame (s : State) : State :=
  let count := countUp s.site.primingFrames s.primingCounter
  let counted := { s with primingCounter := count }
  let moved :=
    match counted.primed count with
    | some power => counted.endPriming power
    | none => counted
  moved.emitPriming

/-- The frame number as this expiry will have it: advanced by one in GOVERNING and HOLDING (R3). -/
def State.numberFrame (s : State) : State :=
  match s.mode with
  | .governing | .holding => { s with frameNumber := s.frameNumber + 1 }
  | _ => s

/-- What a frame expiry does before the governor reads its inputs: the frame number, timeouts and silence, the Profile List
(R3, R49, R113, R114). -/
def State.prepareFrame (s : State) : State := s.numberFrame.ageRecords.updateList

/-- The work of the governor at an expiry, by the mode (R2). -/
def State.workFrame (s : State) : State :=
  match s.mode with
  | .priming => s.primeFrame
  | .governing => s.governFrame
  | .holding => s.holdFrame
  | .loading | .standby => s

/-- A frame expiry can come: the frame timer runs, in a mode whose expiries mean something (R2). -/
def State.frameDue (s : State) : Bool := s.frameTimer != .stopped && s.mode.running

/-- A frame expiry, taken whole; with the timer stopped it does not occur (R2). -/
def State.expireFrame (s : State) : State := if s.frameDue then s.prepareFrame.workFrame.settle else s

end Sys2Proof.Machine
end

