-- ==== Sys2Proof/Machine/Scan.lean ====
section
/-! DEFINITION. The Scan Unit: the scan, samples, groups, buffers, alarms, the irradiance track, and the meter's loss and return
(chapter 4). -/

namespace Sys2Proof.Machine

/-- The least and the greatest value of a channel (section 4.1). -/
def channelLeast : Int := -8388608
def channelGreatest : Int := 8388607

/-- A raw sample scaled by the channel's gain and offset, and clamped (R61). -/
def ChannelConfig.scale (c : ChannelConfig) (raw : Int) : Int :=
  clamp channelLeast channelGreatest (raw * c.gain / 65536 + c.offset)

/-- A full group reduced to one value (R63). -/
def Reduction.reduce (mode : Reduction) (groupSize : Nat) (group : List Int) : Int :=
  match mode with
  | .first => group.headD 0
  | .max => highest 0 group
  | .min => lowest 0 group
  | .mean => group.sum / groupSize

/-- A reduced value appended to the averaging buffer, the oldest removed first where it holds M values (R64). -/
def ChannelConfig.pushBuffer (c : ChannelConfig) (buffer : List Int) (v : Int) : List Int :=
  (if c.averaging ≤ buffer.length then buffer.drop 1 else buffer) ++ [v]

/-- The irradiance track at a new current value, `entering` where the channel enters VALID with it (R72). -/
def Channel.newTrack (c : Channel) (entering : Bool) (v : Int) : Int :=
  match c.config.kind with
  | .irradiance => if entering then v else max v (c.track - c.config.decay)
  | _ => c.track

/-- The ratio of a value to a track (R73). -/
def ratioOf (track v : Int) : Int :=
  if track ≤ 0 then 256 else if v ≤ 0 then 0 else min 256 (256 * v / track)

/-- LOW latches at this value (R70). -/
def Channel.latchesLow (c : Channel) (v : Int) : Bool := c.config.monitor && v ≤ c.config.low && !c.lowAlarm

/-- HIGH latches at this value (R70). -/
def Channel.latchesHigh (c : Channel) (v : Int) : Bool := c.config.monitor && c.config.high ≤ v && !c.highAlarm

/-- A channel that takes a new current value: its track and ratio, then its alarms; entering VALID clears its loss mark (R64, R68,
R70, R72, R73). -/
def Channel.takeValue (c : Channel) (v : Int) : Channel :=
  let track := c.newTrack (c.state != .valid) v
  { c with
    state := .valid
    value := some v
    lossMark := false
    track := track
    ratio := match c.config.kind with
      | .irradiance => ratioOf track v
      | _ => c.ratio
    lowAlarm := c.lowAlarm || c.latchesLow v
    highAlarm := c.highAlarm || c.latchesHigh v }

/-- What a valid sample makes of a channel before any new current value: the missing run 0, LOST left for FILLING, the value in the
group, a full group reduced into the buffer (R63 to R65). -/
def Channel.gather (c : Channel) (v : Int) : Channel :=
  let group := c.group ++ [v]
  let present := { c with missingRun := 0, state := if c.state = ChannelState.lost then ChannelState.filling else c.state }
  if c.config.groupSize ≤ group.length then
    { present with
      group := []
      buffer := c.config.pushBuffer c.buffer (c.config.reduction.reduce c.config.groupSize group) }
  else { present with group := group }

/-- The new current value a valid sample gives: the mean of the buffer once the sample has completed a group and the buffer holds M
values (R64). -/
def Channel.newValue (c : Channel) (v : Int) : Option Int :=
  let gathered := c.gather v
  if c.config.groupSize ≤ c.group.length + 1 ∧ c.config.averaging ≤ gathered.buffer.length then
    some (gathered.buffer.sum / c.config.averaging)
  else none

/-- A channel after a valid sample (R63, R64). -/
def Channel.takeSample (c : Channel) (v : Int) : Channel :=
  match c.newValue v with
  | some value => (c.gather v).takeValue value
  | none => c.gather v

/-- The CHANNEL_ALARM notices of a new current value, LOW before HIGH (R70). -/
def Channel.alarmNotices (c : Channel) (index : ChannelIndex) (v : Int) : List Notice :=
  if c.config.notify then
    (if c.latchesLow v then [.channelAlarm index false v] else []) ++
      (if c.latchesHigh v then [.channelAlarm index true v] else [])
  else []

/-- The meter's return delivered to the Mode Controller: HOLDING is left for GOVERNING (R23, R68, R143). -/
def State.meterReturn (s : State) : State := if s.mode = .holding then s.changeMode .governing else s

/-- The meter's loss delivered to the Mode Controller: GOVERNING is left for HOLDING (R23, R67, R143). -/
def State.meterLoss (s : State) : State := if s.mode = .governing then s.enterHolding else s

/-- The POI_POWER channel enters VALID with its loss mark set: METER_BACK and a meter return (R68). -/
def Channel.returnsMeter (c : Channel) : Bool := c.config.kind == .poiPower && c.state != .valid && c.lossMark

/-- A valid sample taken into a channel, its alarms and the meter's return within the same event (R63, R64, R68, R70). -/
def State.sampleChannel (s : State) (index : ChannelIndex) (v : Int) : State :=
  let c := s.channel index
  let taken := s.setChannel index (c.takeSample v)
  match c.newValue v with
  | none => taken
  | some value =>
    let alarmed := taken.raiseAll (c.alarmNotices index value)
    if c.returnsMeter then (alarmed.raise (.meterBack index value)).meterReturn else alarmed

/-- A channel after a missing sample: the counter and the run advance, and the channel enters LOST where the run reaches the miss
limit (R62, R65, R74). -/
def Channel.takeMissing (c : Channel) : Channel :=
  let run := countUp c.config.missLimit c.missingRun
  let counted := { c with missing := advance c.missing, missingRun := run }
  if c.config.missLimit ≤ run ∧ (c.state = .filling ∨ c.state = .valid) then
    { counted with state := .lost, group := [], buffer := [], value := none, ratio := 256, lossMark := true }
  else counted

/-- A missing sample loses the meter: the POI_POWER channel enters LOST with its loss mark clear. With the mark set it has not become
VALID since it was lost, and R67's last sentence gives no second loss; that this outweighs R65, R67 and R143 where they speak of every entry
into LOST and of a loss in HOLDING is the model's choice (DESIGN CHOICE, log entry 19). -/
def Channel.losesMeter (c : Channel) : Bool :=
  c.config.kind == .poiPower && c.takeMissing.state == .lost && c.state != .lost && !c.lossMark

/-- A missing sample at a channel, the meter's loss within the same event (R62, R65, R67). -/
def State.missChannel (s : State) (index : ChannelIndex) : State :=
  let c := s.channel index
  let missed := s.setChannel index c.takeMissing
  if c.losesMeter then (missed.raise (.meterLost index c.config.missLimit)).meterLoss else missed

/-- The channels visited in ascending number until one is read: an OFF channel is passed over, a skip counter above 0 decreases, and
a channel to be read has its address sent and its skip counter loaded. With none left the scan ends (R58, R60). -/
def State.visit (s : State) : List ChannelIndex → State
  | [] => { s with scan := none }
  | i :: rest =>
    let c := s.channel i
    if c.state = .off then s.visit rest
    else if c.skipCounter = 0 then
      { s.setChannel i { c with skipCounter := c.config.skip } with scan := some ⟨i, c.config.address⟩ }
    else (s.setChannel i { c with skipCounter := c.skipCounter - 1 }).visit rest

/-- The channels after one (R58). -/
def channelsAfter (i : ChannelIndex) : List ChannelIndex := (List.finRange 16).drop (i.val + 1)

/-- A scan can begin: the scan timer runs, in a mode whose expiries mean something (R57). -/
def State.scanDue (s : State) : Bool := s.scanTimer != .stopped && s.mode.running

/-- The scan goes on with the channel after the one just read (R58, R60). -/
def State.scanOn (s : State) (i : ChannelIndex) : State := s.visit (channelsAfter i)

end Sys2Proof.Machine
end

