-- ==== Sys2Proof/Machine/Limits.lean ====
section
/-! DEFINITION. The requests of cluster and storage controllers: JOIN, REPORT, YIELD, LEAVE (chapters 5 and 7). -/

namespace Sys2Proof.Machine

/-- A JOIN taken: ACK, the record re-initialised, KEEP at fb/0, and a budget release where the committed value has fallen
(R125). -/
def State.takeJoin (s : State) (p : Port) : State :=
  let was := (s.record p).committed
  let acked := s.ack p 0x10#8
  let joined := acked.setRecord p ((acked.record p).joined (s.config p))
  (joined.sendKeep p).releaseIfFallen p was

/-- A LEAVE taken: ACK, and a port that is not ABSENT becomes ABSENT at fb/0, its waiting LIMIT withdrawn, a budget release
following where the committed value has fallen (R126). -/
def State.takeLeave (s : State) (p : Port) : State :=
  let r := s.record p
  let acked := s.ack p 0x13#8
  if r.participation = .absent then acked
  else ((acked.setRecord p (r.left (s.config p))).withdrawLimit p).releaseIfFallen p r.committed

/-- A YIELD that leaves its recall standing: a STALE storage port counts at no less than 0 (R81, R119). -/
def PortRecord.partlyYielded (c : PortConfig) (r : PortRecord) (v : Int) : PortRecord :=
  { r with
    committed := if c.role = .storage ∧ r.participation = .stale then max v 0 else v
    lastSent := some v }

/-- A YIELD that ends its recall (R119). -/
def PortRecord.fullyYielded (r : PortRecord) (v : Int) : PortRecord :=
  { r with committed := v, lastSent := some v, outstanding := none, participation := .engaged, cause := none }

/-- A refused YIELD advances its counter (R120). -/
def PortRecord.yieldRefused (r : PortRecord) : PortRecord := { r with yieldsRefused := advance r.yieldsRefused }

/-- A YIELD taken in a running mode, judged against the recall and the committed value; an accepted one is followed by a budget
release (R119, R120). -/
def State.takeYield (s : State) (p : Port) (value : Int) : State :=
  let c := s.config p
  let r := s.record p
  let v := c.clampValue value
  match r.outstanding with
  | none => (s.setRecord p r.yieldRefused).nak p 0x12#8 .noRecall
  | some recalled =>
    if v ≤ recalled.value then ((s.setRecord p (r.fullyYielded v)).ack p 0x12#8).budgetRelease
    else if v ≤ r.committed then ((s.setRecord p (r.partlyYielded c v)).ack p 0x12#8).budgetRelease
    else (s.setRecord p r.yieldRefused).nak p 0x12#8 .mismatch

/-- A cluster REPORT's values stored, clamped to [0, rated] (R124). -/
def PortRecord.storeCluster (c : PortConfig) (r : PortRecord) (output available applied : Int) : PortRecord :=
  { r with
    cluster := ⟨clamp 0 c.rated output, clamp 0 c.rated available, clamp 0 c.rated applied⟩
    reportAge := 0 }

/-- A storage REPORT's values stored, clamped in the order of R77: the capacity before the SoE it bounds. -/
def PortRecord.storeStorage (c : PortConfig) (r : PortRecord) (applied discharge charge soe capacity : Int) : PortRecord :=
  let stored := clamp 0 4000000000 capacity
  { r with
    storage :=
      { r.storage with
        capacity := stored
        soe := clamp 0 stored soe
        discharge := clamp 0 c.rated discharge
        charge := clamp 0 c.ratedCharge charge
        applied := clamp (-c.ratedCharge) c.rated applied }
    reportAge := 0 }

/-- The applied value of the last REPORT (R122). -/
def PortRecord.applied (c : PortConfig) (r : PortRecord) : Int :=
  match c.role with
  | .storage => r.storage.applied
  | _ => r.cluster.applied

/-- The committed value of a port that has been heard again: in PRIMING as it stands, and otherwise the smaller of the applied and
the committed value, clamped into the port's range (R122). -/
def State.returnedValue (s : State) (p : Port) : Int :=
  let c := s.config p
  let r := s.record p
  if s.mode = .priming then r.committed else c.clampValue (min (r.applied c) r.committed)

/-- A record as the return after silence leaves it (R122). -/
def PortRecord.returned (r : PortRecord) (value : Int) : PortRecord :=
  let stands : Bool := match r.outstanding with
    | some recalled => recalled.value < value
    | none => false
  { r with
    committed := value
    cause := none
    participation := if stands then .recalling else .engaged
    outstanding := if stands then r.outstanding else none }

/-- The return of a silent port by its REPORT, with the LIMIT it is sent and a budget release where its committed value has fallen
(R122). -/
def State.returnPort (s : State) (p : Port) : State :=
  if (s.record p).silent then
    let was := (s.record p).committed
    let r := (s.record p).returned (s.returnedValue p)
    let returned := s.setRecord p r
    let sent :=
      match r.outstanding with
      | some recalled => returned.sendLower p recalled.value
      | none => returned.sendKeep p
    sent.releaseIfFallen p was
  else s

/-- The overrun run after a report: advanced while the output lies above the ceiling and the margin, and otherwise 0 (R130). -/
def State.overrunRunAfter (s : State) (r : PortRecord) : Nat :=
  if r.committed + s.site.margin < r.cluster.output then countUp Config.overrunLimit r.overrunRun else 0

/-- The overrun check of a cluster that is not ABSENT (R130). -/
def State.checkOverrun (s : State) (p : Port) : State :=
  let r := s.record p
  if r.participation = .absent then s
  else
    let run := s.overrunRunAfter r
    if run = 0 then s.setRecord p { r with overrunRun := 0, overrun := false }
    else if run = Config.overrunLimit ∧ r.overrun = false then
      (s.setRecord p { r with overrunRun := run, overrun := true }).raise (.portOverrun p r.cluster.output)
    else s.setRecord p { r with overrunRun := run }

/-- A cluster REPORT taken (R122, R124, R130). -/
def State.takeClusterReport (s : State) (p : Port) (output available applied : Int) : State :=
  ((s.setRecord p ((s.record p).storeCluster (s.config p) output available applied)).returnPort p).checkOverrun p

/-- A storage REPORT taken (R77, R122). -/
def State.takeStorageReport (s : State) (p : Port) (applied discharge charge soe capacity : Int) : State :=
  (s.setRecord p ((s.record p).storeStorage (s.config p) applied discharge charge soe capacity)).returnPort p

end Sys2Proof.Machine
end

