-- ==== Sys2Proof/Machine/Loading.lean ====
section
/-! DEFINITION. Configuration records, the cross-checks, and the configuration image (chapter 8, sections 8.3 to 8.5). -/

namespace Sys2Proof.Machine

/-! ### Cross-checks (R141) -/

/-- A configuration the cross-checks judge: the one in force, or the staging configuration of an image (R136, R141). -/
structure Configuration where
  site : SiteRecord
  ports : Vector PortConfig 12
  channels : Vector ChannelConfig 16
  profile : Profile
deriving DecidableEq, Repr

/-- The configuration in force. -/
def State.inForce (s : State) : Configuration where
  site := s.site
  ports := s.portTable
  channels := Vector.ofFn fun c : ChannelIndex => (s.channel c).config
  profile := s.defaultProfile

/-- The staging configuration at its start values (R136). -/
def Configuration.start : Configuration where
  site := .start
  ports := Vector.replicate 12 .start
  channels := Vector.replicate 16 .start
  profile := .start

/-- How many ports have a role. -/
def Configuration.roleCount (c : Configuration) (role : Role) : Nat :=
  ((List.finRange 12).filter fun p : Port => c.ports[p].role == role).length

/-- How many channels have a kind. -/
def Configuration.kindCount (c : Configuration) (kind : ChannelKind) : Nat :=
  ((List.finRange 16).filter fun i : ChannelIndex => c.channels[i].kind == kind).length

/-- Every cluster entry satisfies a test. -/
def Configuration.everyCluster (c : Configuration) (test : PortConfig → Bool) : Bool :=
  (List.finRange 12).all fun p : Port => c.ports[p].role != .cluster || test c.ports[p]

/-- The sum of the cluster fallbacks (R141, check 6). -/
def Configuration.fallbackSum (c : Configuration) : Int := portSum fun p => c.ports[p].rest

/-- A lead channel named is an IRRADIANCE channel (R141, check 7). -/
def Configuration.leadFits (c : Configuration) (p : PortConfig) : Bool :=
  match p.lead with
  | none => true
  | some i => c.channels[i].kind == .irradiance

/-- The cross-checks in their order: the first that fails, or PASSED (R141). -/
def Configuration.crossCheck (c : Configuration) : CheckResult :=
  if c.kindCount .poiPower ≠ 1 then .noMeter
  else if c.roleCount .cluster = 0 then .noCluster
  else if 10 < c.roleCount .cluster ∨ 2 < c.roleCount .storage ∨ 2 < c.roleCount .supervisor then .roleCount
  else if !c.everyCluster fun p => p.rated ≤ c.site.exportLimit then .rating
  else if !c.everyCluster fun p => p.fallback ≤ p.rated then .fallback
  else if c.site.exportLimit < c.fallbackSum then .fallbackSum
  else if !c.everyCluster c.leadFits then .lead
  else .passed

/-! ### Configuration records in STANDBY (R41, R56, R138, R139) -/

/-- A channel configured: its configuration part replaced whole and its run part reset (R56). -/
def configuredChannel (c : ChannelConfig) : Channel :=
  { Channel.start with config := c, state := if c.kind = .off then .off else .filling }

/-- A port table entry replaced whole and copied into the port's record, whose committed value follows it; the sets of ports that
cease to be supervisory are emptied (R108, R139, R140). -/
def State.configurePort (s : State) (p : Port) (c : PortConfig) : State :=
  let replaced := { s with portTable := s.portTable.set p c }
  (replaced.setRecord p { s.record p with committed := c.rest }).dropFormerSets s

/-- SETSITE in STANDBY (R138). -/
def State.takeSetSite (s : State) (p : Port) (f : SiteFields) : State :=
  match siteOf f with
  | some site => { s with site := site }.ack p 0x23#8
  | none => s.nak p 0x23#8 .range

/-- SETPORT in STANDBY (R139). -/
def State.takeSetPort (s : State) (p : Port) (f : PortFields) : State :=
  match portConfigOf f with
  | some (target, c) => (s.configurePort target c).ack p 0x24#8
  | none => s.nak p 0x24#8 .range

/-- SETCHAN in STANDBY (R56). -/
def State.takeSetChan (s : State) (p : Port) (f : ChannelFields) : State :=
  match channelConfigOf f with
  | some (index, c) => (s.setChannel index (configuredChannel c)).ack p 0x25#8
  | none => s.nak p 0x25#8 .range

/-- SETPROF in STANDBY (R41, R52). -/
def State.takeSetProf (s : State) (p : Port) (b : ProfileBlock) : State :=
  match defaultProfileOf b with
  | some profile => ({ s with defaultProfile := profile }.ack p 0x26#8).listChange .defaultSet none
  | none => s.nak p 0x26#8 .range

/-! ### The configuration image (R135, R136) -/

/-- A byte of the external memory; one it does not supply reads as 0xFF (R135). -/
def memoryByte (memory : List Byte) (i : Nat) : Byte := (memory[i]?).getD 0xFF#8

/-- The first `n` bytes read from address 0 upward (R135). -/
def memoryBytes (memory : List Byte) (n : Nat) : List Byte := (List.range n).map (memoryByte memory)

/-- The CRC shifted by one bit, polynomial 0x1021 (R135). -/
def crcBit (crc : BitVec 16) : BitVec 16 := if crc.getLsbD 15 then (crc <<< 1) ^^^ 0x1021#16 else crc <<< 1

/-- The CRC-16 taken over one more byte, most significant bit first (R135). -/
def crcByte (crc : BitVec 16) (b : Byte) : BitVec 16 :=
  let x := crc ^^^ (b.zeroExtend 16 <<< 8)
  crcBit (crcBit (crcBit (crcBit (crcBit (crcBit (crcBit (crcBit x)))))))

/-- CRC-16, initial value 0xFFFF, neither reflected nor finally combined (R135). -/
def crc16 (bytes : List Byte) : BitVec 16 := bytes.foldl crcByte 0xFFFF#16

/-- The payload length of a record's kind; none for a kind that is no configuration request (R135, R157). -/
def recordLength (kind : Byte) : Option Nat :=
  if kind = 0x23#8 then some 21
  else if kind = 0x24#8 then some 19
  else if kind = 0x25#8 then some 24
  else if kind = 0x26#8 then some 26
  else none

/-- A record taken into the staging configuration; none where a field fails its range check (R136). -/
def Configuration.stage (c : Configuration) : Request → Option Configuration
  | .setSite f => (siteOf f).map fun site => { c with site := site }
  | .setPort f => (portConfigOf f).map fun (item : Port × PortConfig) => { c with ports := c.ports.set item.1 item.2 }
  | .setChan f =>
    (channelConfigOf f).map fun (item : ChannelIndex × ChannelConfig) => { c with channels := c.channels.set item.1 item.2 }
  | .setProf b => (defaultProfileOf b).map fun profile => { c with profile := profile }
  | _ => none

/-- The records of an image in order, at most `fuel` of them: the staging configuration, or the check result of the first failure
(R136). Each record is at least one byte long, so the image's length is fuel enough. -/
def stageRecords : Nat → Configuration → List Byte → Except CheckResult Configuration
  | _, c, [] => .ok c
  | 0, _, _ :: _ => .error .record
  | fuel + 1, c, kind :: rest =>
    match recordLength kind with
    | none => .error .record
    | some n =>
      if rest.length < n then .error .record
      else
        match (Request.decode kind (rest.take n)).bind c.stage with
        | none => .error .range
        | some c' => stageRecords fuel c' (rest.drop n)

/-- An image judged: the configuration to come into force, or the check result of its first failure (R135, R136, R141). -/
def judgeImage (memory : List Byte) : Except CheckResult Configuration :=
  let length := (field (memoryBytes memory 3) 1 2).toNat
  let image := memoryBytes memory length
  let body := image.take (length - 2)
  if memoryByte memory 0 ≠ 1#8 then .error .format
  else if length < 5 ∨ Config.imageLimit < length then .error .length
  else if crc16 body ≠ field image (length - 2) 2 then .error .crc
  else
    match stageRecords length Configuration.start (body.drop 3) with
    | .error e => .error e
    | .ok c => if c.crossCheck = .passed then .ok c else .error c.crossCheck

/-- A configuration brought into force whole: each record's committed value follows the port table, and each channel's run part
follows its kind (R56, R108, R136). -/
def State.bringIntoForce (s : State) (c : Configuration) : State :=
  let replaced := { s with site := c.site, portTable := c.ports, defaultProfile := c.profile }
  (replaced.mapRecords fun p r => { r with committed := c.ports[p].rest }).mapChannels fun i _ =>
    configuredChannel c.channels[i]

/-- The end of the image read: the configuration in force and PRIMING, or an unconfigured STANDBY (R134, R136). -/
def State.endLoading (s : State) (memory : List Byte) : State :=
  let ended := { s with readProgress := .idle }
  match judgeImage memory with
  | .ok c => { ended.bringIntoForce c with checkResult := .passed }.enterPriming
  | .error e => { ended with checkResult := e }.enterStandby

end Sys2Proof.Machine
end

