-- ==== Sys2Proof/Machine/Services.lean ====
section
/-! DEFINITION. The requests of supervisory controllers: PUSH, DROP, QUERY, CLEAR, MODE, RESTART (chapters 3, 8 and 10). -/

namespace Sys2Proof.Machine

/-! ### PUSH and DROP (R43 to R45) -/

/-- A PUSH taken in a running mode (R43, R44). -/
def State.takePush (s : State) (p : Port) (block : ProfileBlock) (delay : Byte) (expiry : BitVec 16) : State :=
  if Config.listCapacity ≤ s.entries.length then s.nak p 0x20#8 .listFull
  else
    let acked := s.enqueue p (.ack 0x20#8 (!(profileOf block).inRange) false)
    { acked with entries := s.entries ++ [pushedEntry p block delay expiry] }.listChange .pushed (some p)

/-- A DROP taken in STANDBY or a running mode (R45). -/
def State.takeDrop (s : State) (p : Port) : State :=
  match dropNewest p s.entries with
  | none => s.nak p 0x21#8 .notFound
  | some rest => ({ s with entries := rest }.ack p 0x21#8).listChange .dropped (some p)

/-! ### QUERY (R158) -/

/-- The data of a STATUS reply (R25, R37, R53, R110, R145, R158). -/
def State.status (s : State) : StatusData where
  mode := s.mode
  cause := s.restartCause
  check := s.checkResult
  frame := s.frameNumber
  reference := s.reference
  target := s.target
  storageNet := s.storageNet
  net := s.netCommitment
  exported := s.exportCommitment
  activePosition := activePosition s.entries
  activePort := (activeEntry s.entries).map Entry.port
  latched := s.complianceLatched

/-- The slot of a LIST reply: the default profile for index 0, the entry at the position, or absent (R54). -/
def State.listSlot (s : State) (index : Nat) : ListSlot :=
  if index = 0 then .default s.defaultProfile
  else
    match entryAt s.entries index with
    | some e => .entry e
    | none => .absent

/-- The four counters of a port, as a COUNTERS reply lists them (R156, R157). -/
def State.portCounters (s : State) (p : Port) : List Nat :=
  [(s.link p).accepted, (s.link p).rejected, (s.record p).yieldsRefused, (s.record p).recallTimeouts]

/-- The counters of a COUNTERS index: 0 the plant's and the channels', 1 those of ports 0 to 5, 2 those of ports 6 to 11 (R157,
R163). -/
def State.counters (s : State) (index : Nat) : List Nat :=
  match index with
  | 0 =>
    [s.excursions, s.windowConflicts, s.complianceEpisodes, s.holdingEntries] ++
      (List.finRange 16).map fun c => (s.channel c).missing
  | 1 => ((List.finRange 12).take 6).flatMap s.portCounters
  | _ => ((List.finRange 12).drop 6).flatMap s.portCounters

/-- The data a target answers an index with; none where the target or the index is out of range (R38, R54, R75, R132, R158). -/
def State.queryData (s : State) (target : Byte) (index : BitVec 16) : Option ReplyData :=
  let i := index.toNat
  match target.toNat with
  | 0 => some (.status s.status)
  | 1 => (portOf i).map fun p => .port (s.config p) (s.record p)
  | 2 => if i ≤ 599 then some (.history (s.recordAt i) (s.recordAt (i + 1))) else none
  | 3 => (channelOf i).map fun c => .channel (s.channel c)
  | 4 => if i ≤ 4 then some (.list s.entries.length (activePosition s.entries) (s.listSlot i)) else none
  | 5 => if i ≤ 2 then some (.counters (s.counters i)) else none
  | _ => none

/-- A QUERY taken: one REPLY, or a NAK with reason RANGE (R158). -/
def State.takeQuery (s : State) (p : Port) (target : Byte) (index : BitVec 16) : State :=
  match s.queryData target index with
  | some data => s.enqueue p (.reply index data)
  | none => s.nak p 0x22#8 .range

/-! ### CLEAR (R71, R161, R163) -/

/-- Every counter of the part set to 0 (R163). -/
def State.zeroCounters (s : State) : State :=
  let plant := { s with excursions := 0, windowConflicts := 0, complianceEpisodes := 0, holdingEntries := 0 }
  ((plant.mapChannels fun _ c => { c with missing := 0 }).mapRecords fun _ r =>
    { r with yieldsRefused := 0, recallTimeouts := 0 }).mapLinks fun _ l => { l with accepted := 0, rejected := 0 }

/-- A channel with its alarms cleared (R71). -/
def Channel.alarmsCleared (c : Channel) : Channel := { c with lowAlarm := false, highAlarm := false }

/-- CLEAR ALARMS of one channel, or of every channel for 255 (R71). -/
def State.takeClearAlarms (s : State) (p : Port) (channel : Byte) : State :=
  if channel = 255#8 then (s.mapChannels fun _ c => c.alarmsCleared).ack p 0x28#8
  else
    match channelOf channel.toNat with
    | some c => (s.setChannel c (s.channel c).alarmsCleared).ack p 0x28#8
    | none => s.nak p 0x28#8 .range

/-- CLEAR NOTICES: the sender's pending set emptied (R161). -/
def State.takeClearNotices (s : State) (p : Port) : State :=
  (s.setLink p { s.link p with notices := [] }).ack p 0x28#8

/-- A CLEAR taken; a selector outside 0 … 2 is refused with RANGE (R161). -/
def State.takeClear (s : State) (p : Port) (selector channel : Byte) : State :=
  match selector.toNat with
  | 0 => s.zeroCounters.ack p 0x28#8
  | 1 => s.takeClearAlarms p channel
  | 2 => s.takeClearNotices p
  | _ => s.nak p 0x28#8 .range

/-! ### MODE and RESTART (R141, R142, R144) -/

/-- MODE RUN in STANDBY: the cross-checks decide between PRIMING and a NAK with reason CONFIG (R141). -/
def State.runChecked (s : State) (p : Port) : State :=
  let result := s.inForce.crossCheck
  let checked := { s with checkResult := result }
  if result = .passed then (checked.ack p 0x27#8).enterPriming else checked.nak p 0x27#8 .config

/-- MODE RUN, outside LOADING (R141, R142). -/
def State.takeModeRun (s : State) (p : Port) : State := if s.mode = .standby then s.runChecked p else s.ack p 0x27#8

/-- MODE STANDBY, outside LOADING (R142). -/
def State.takeModeStandby (s : State) (p : Port) : State :=
  if s.mode.running then (s.ack p 0x27#8).enterStandby else s.ack p 0x27#8

/-- A MODE request, outside LOADING; a code that is neither is refused with RANGE (R142). -/
def State.takeMode (s : State) (p : Port) (code : Byte) : State :=
  match code.toNat with
  | 0 => s.takeModeStandby p
  | 1 => s.takeModeRun p
  | _ => s.nak p 0x27#8 .range

/-- A RESTART, outside LOADING: its ACK is the one restart pending waits on, unless a restart is pending already (R144). -/
def State.takeRestartRequest (s : State) (p : Port) : State :=
  match s.restartPending with
  | none => { s.enqueue p (.ack 0x29#8 false true) with restartPending := some p }
  | some _ => s.ack p 0x29#8

end Sys2Proof.Machine
end

