-- ==== Sys2Proof/Machine/Link.lean ====
section
/-! DEFINITION. Link ports: acceptance and rejection of frames, validation, delivery, and the receiver's bytes (chapter 9). -/

namespace Sys2Proof.Machine

/-! ### Acceptance, rejection and the loss of a link -/

/-- A link at an accepted frame: the receiver in HUNT, the counter advanced, the rejections forgotten; a DOWN link comes UP with an
empty queue and an empty pending set (R148, R149). -/
def LinkPort.accept (l : LinkPort) : LinkPort :=
  let counted := { l with receiver := .hunt, accepted := advance l.accepted, rejections := 0 }
  if l.up then counted else { counted with up := true, queue := [], notices := [], transmitter := .idle }

/-- An accepted frame, before its validation: the link's part, and the silence count of the port's record set to 0 (R114, R148,
R149). -/
def State.acceptFrame (s : State) (p : Port) : State :=
  (s.setLink p (s.link p).accept).setRecord p { s.record p with silence := 0 }

/-- A link at a rejected frame, as long as it does not lose the link by it (R148, R149). -/
def LinkPort.reject (l : LinkPort) : LinkPort :=
  { l with
    receiver := .hunt
    rejected := advance l.rejected
    rejections := if l.up then l.rejections + 1 else l.rejections }

/-- A rejection takes the link DOWN: it is UP, and this is its eighth in a row (R149). -/
def LinkPort.losesLink (l : LinkPort) : Bool := l.up && Config.rejectionLimit ≤ l.rejections + 1

/-- A link that goes DOWN: queue, message being sent and pending set lost (R149, R150). -/
def LinkPort.down (l : LinkPort) : LinkPort :=
  { l with up := false, rejections := 0, queue := [], transmitter := .idle, notices := [] }

/-- The loss of a link: the link's part, silence delivered to the Limit Protocol, and the BOUND entries of a SUPERVISOR port removed
(R50, R121, R150). -/
def State.loseLink (s : State) (p : Port) : State :=
  let silenced := (s.setLink p (s.link p).down).silencePort p
  if (s.config p).role = .supervisor then silenced.unbind p else silenced

/-- A frame rejected (R148, R149, R150). -/
def State.rejectFrame (s : State) (p : Port) : State :=
  let l := s.link p
  let rejected := s.setLink p l.reject
  if l.losesLink then rejected.loseLink p else rejected

/-! ### Validation and delivery -/

/-- A request of a cluster or storage controller (R152). -/
def Request.ofController : Request → Bool
  | .join _ | .reportCluster .. | .reportStorage .. | .yield _ | .leave => true
  | _ => false

/-- The role check, with the open access of R140 (R152). -/
def State.allows (s : State) (p : Port) (req : Request) : Bool :=
  if Request.ofController req then (s.config p).role.steerable else s.supervisory p

/-- The length of a REPORT is 12 bytes from a CLUSTER port and 20 from a STORAGE port; from any other, either passes (R151). -/
def lengthFits (role : Role) : Request → Bool
  | .reportCluster .. => role != .storage
  | .reportStorage .. => role != .cluster
  | _ => true

/-- The role claimed by a JOIN is the port's (R151, check 4). -/
def claimFits (role : Role) : Request → Bool
  | .join code => code.toNat == role.code
  | _ => true

/-- A request taken in STANDBY or a running mode by the block that owns its kind (R145). -/
def State.take (s : State) (p : Port) (req : Request) : State :=
  match req with
  | .join _ => if s.mode.running then s.takeJoin p else s.nak p 0x10#8 .state
  | .reportCluster o a d =>
    if s.mode.running then s.takeClusterReport p o.toNat a.toNat d.toNat else s.nak p 0x11#8 .state
  | .reportStorage a d c e k =>
    if s.mode.running then s.takeStorageReport p (signed a) d.toNat c.toNat e.toNat k.toNat else s.nak p 0x11#8 .state
  | .yield v => if s.mode.running then s.takeYield p (signed v) else s.nak p 0x12#8 .state
  | .leave => if s.mode.running then s.takeLeave p else s.nak p 0x13#8 .state
  | .push b delay expiry => if s.mode.running then s.takePush p b delay expiry else s.nak p 0x20#8 .state
  | .drop => s.takeDrop p
  | .query target index _ => s.takeQuery p target index
  | .setSite f => if s.mode = .standby then s.takeSetSite p f else s.nak p 0x23#8 .state
  | .setPort f => if s.mode = .standby then s.takeSetPort p f else s.nak p 0x24#8 .state
  | .setChan f => if s.mode = .standby then s.takeSetChan p f else s.nak p 0x25#8 .state
  | .setProf b => if s.mode = .standby then s.takeSetProf p b else s.nak p 0x26#8 .state
  | .mode code => s.takeMode p code
  | .clear selector channel => s.takeClear p selector channel
  | .restart => s.takeRestartRequest p

/-- A request in LOADING: QUERY STATUS is answered and every other refused with STATE, without a role check (R137). -/
def State.takeLoading (s : State) (p : Port) (req : Request) : State :=
  match req with
  | .query target index _ => if target = 0#8 then s.takeQuery p target index else s.nak p 0x22#8 .state
  | _ => s.nak p req.kind .state

/-- A request of a known kind judged from its length on: length, the mode LOADING, the port's role, a JOIN's claim (R137, R151). -/
def State.judge (s : State) (p : Port) (req : Request) : State :=
  if !lengthFits (s.config p).role req then s.nak p req.kind .length
  else if s.mode = .loading then s.takeLoading p req
  else if !s.allows p req then s.nak p req.kind .role
  else if !claimFits (s.config p).role req then s.nak p req.kind .role
  else s.take p req

/-- An accepted frame validated: kind, then length, then as `State.judge` (R151). -/
def State.validate (s : State) (p : Port) (kind : Byte) (payload : List Byte) : State :=
  if !isRequestKind kind then s.nak p kind .kind
  else
    match Request.decode kind payload with
    | none => s.nak p kind .length
    | some req => s.judge p req

/-- A request's frame arrives on a port and is accepted (R148, R151). -/
def State.receive (s : State) (p : Port) (req : Request) : State := ((s.acceptFrame p).judge p req).settle

/-- A frame of any kind arrives on a port and is accepted (R148, R151). -/
def State.receiveFrame (s : State) (p : Port) (kind : Byte) (payload : List Byte) : State :=
  ((s.acceptFrame p).validate p kind payload).settle

/-! ### The receiver's bytes (R147, R148) -/

/-- The receiver of a port set to a state (R147). -/
def State.setReceiver (s : State) (p : Port) (r : Receiver) : State := s.setLink p { s.link p with receiver := r }

/-- A byte with its stop bit, taken according to the receiver's state (R147). -/
def State.takeByte (s : State) (p : Port) (b : Byte) : State :=
  match (s.link p).receiver with
  | .hunt => if b = syncByte then s.setReceiver p .kind else s
  | .kind => s.setReceiver p (.len b)
  | .len kind =>
    if 64 < b.toNat then (s.rejectFrame p).settle
    else if b = 0#8 then s.setReceiver p (.check kind b [])
    else s.setReceiver p (.payload kind b [])
  | .payload kind len held =>
    if held.length + 1 < len.toNat then s.setReceiver p (.payload kind len (held ++ [b]))
    else s.setReceiver p (.check kind len (held ++ [b]))
  | .check kind len held =>
    if b = checkByte kind len held then s.receiveFrame p kind held else (s.rejectFrame p).settle

/-- A byte that arrives without its stop bit: discarded in HUNT, and otherwise the frame is rejected (R148). -/
def State.takeBadByte (s : State) (p : Port) : State :=
  if (s.link p).receiver = .hunt then s else (s.rejectFrame p).settle

/-- The transmitter has sent its message's last byte; an idle one has none to end (R153). -/
def State.endSending (s : State) (p : Port) : State :=
  match (s.link p).transmitter with
  | .idle => s
  | .sending _ => (s.setLink p { s.link p with transmitter := .idle }).settle

end Sys2Proof.Machine
end

