-- ==== Sys2Proof/Machine/Events.lean ====
section
/-! DEFINITION. The meanings of the part's own events: power and reset, the image read, frame and scan expiries, samples, rejections,
transmissions, bytes. -/

namespace Sys2Proof.Machine

/-- What a command answers. -/
abbrev Result := Host.Outcome State Fault Refusal

/-- POWER_ON (R133). -/
def execPowerOn (s : State) : Result := .next (s.restarted .power)

/-- RESET_LINE (R133). -/
def execResetLine (s : State) : Result := .next (s.restarted .line)

/-- CONFIG_READ_COMPLETE (R135, R136); where no read is in progress it does not occur (log entry 4). -/
def execConfigReadComplete (memory : List Byte) (s : State) : Result :=
  .next (if s.readProgress = .reading then (s.endLoading memory).settle else s)

/-- FRAME_EXPIRY (R2). -/
def execFrameExpiry (s : State) : Result := .next s.expireFrame

/-- An expiry taken now would end PRIMING (R5). -/
def State.primingEndDue (s : State) : Bool :=
  s.frameDue && s.mode == .priming && (s.primed (countUp s.site.primingFrames s.primingCounter)).isSome

/-- PRIMING_END (R5, R6): the frame expiry that ends PRIMING, taken whole (log entry 6). -/
def execPrimingEnd (s : State) : Result := .next (if s.primingEndDue then s.expireFrame else s)

/-- An expiry taken now would report this change of the entry at a position (R46, R48). -/
def State.entryDue (s : State) (position : Nat) (cause : ListCause) : Bool :=
  s.frameDue &&
    match entryAt s.entries position with
    | some e => e.tick.change == some (cause, e.port)
    | none => false

/-- PROFILE_ACTIVATION (R46, R47): the frame expiry at which the entry activates, taken whole (R49, log entry 6). -/
def execProfileActivation (position : Nat) (s : State) : Result :=
  .next (if s.entryDue position .activated then s.expireFrame else s)

/-- PROFILE_EXPIRY (R48): the frame expiry at which the entry runs out, taken whole (R49, log entry 6). -/
def execProfileExpiry (position : Nat) (s : State) : Result :=
  .next (if s.entryDue position .expired then s.expireFrame else s)

/-- An expiry taken now would take a port into STALE with this cause (R113, R114). -/
def State.staleDue (s : State) (p : Port) (cause : StaleCause) : Bool :=
  s.frameDue &&
    (s.numberFrame.aged p).2.any fun n =>
      match n with
      | .portStale _ c _ => c == cause
      | _ => false

/-- YIELD_TIMEOUT (R113): the frame expiry at which the port's recall times out, taken whole (log entry 6). -/
def execYieldTimeout (port : Port) (s : State) : Result :=
  .next (if s.staleDue port .yieldTimeout then s.expireFrame else s)

/-- SILENCE_TIMEOUT (R114, R121): the frame expiry at which the port falls silent, taken whole (log entry 6). -/
def execSilenceTimeout (port : Port) (s : State) : Result :=
  .next (if s.staleDue port .silence then s.expireFrame else s)

/-- SCAN_EXPIRY (R57, R58): a scan begins at channel 0 unless one is in progress; with the timer stopped it does not occur. -/
def execScanExpiry (s : State) : Result :=
  .next (if s.scanDue && s.scan.isNone then (s.visit (List.finRange 16)).settle else s)

/-- SAMPLE_RECEIVED (R60, R61, R63): a status of 0 makes the sample valid and any other missing, and the scan goes on; with no read in
progress the answer is disregarded (R60). -/
def execSampleReceived (high mid low status : Byte) (s : State) : Result :=
  match s.scan with
  | none => .next s
  | some scan =>
    let taken :=
      if status = 0#8 then s.sampleChannel scan.channel ((s.channel scan.channel).config.scale (rawSample high mid low))
      else s.missChannel scan.channel
    .next (taken.scanOn scan.channel).settle

/-- CONVERTER_ANSWER_TIMEOUT (R60, R62): the sample is missing and the scan goes on; with no read in progress it does not
occur. -/
def execConverterAnswerTimeout (s : State) : Result :=
  match s.scan with
  | none => .next s
  | some scan => .next ((s.missChannel scan.channel).scanOn scan.channel).settle

/-- FRAME_REJECTED (R147, R148, R149). -/
def execFrameRejected (port : Port) (s : State) : Result := .next (s.rejectFrame port).settle

/-- INTER_BYTE_GAP_TIMEOUT (R148): inside a frame the frame is rejected; in HUNT there is none to reject. -/
def execInterByteGapTimeout (port : Port) (s : State) : Result :=
  .next (if (s.link port).receiver = .hunt then s else (s.rejectFrame port).settle)

/-- RESTART_TAKEN (R144): the ACK that restart pending waits on is no longer queued, so it leaves now or has been removed, and the part
restarts; while the ACK waits in the queue, or with no restart pending, it does not occur (log entry 8). -/
def execRestartTaken (s : State) : Result :=
  match s.restartPending with
  | none => .next s
  | some p => .next (if (s.link p).queue.any Message.isRestartAck then s else s.restarted (.command p))

/-- TRANSMIT_COMPLETE (R153, R155). -/
def execTransmitComplete (port : Port) (s : State) : Result := .next (s.endSending port)

/-- LINK_BYTE_RECEIVED (R147, R148). -/
def execLinkByteReceived (port : Port) (byte : Byte) (stopBit : Bool) (s : State) : Result :=
  .next (if stopBit then s.takeByte port byte else s.takeBadByte port)

end Sys2Proof.Machine
end

