-- ==== Sys2Proof/Machine/Requests.lean ====
section
/-! DEFINITION. The meanings of the commands that are a request's frame arriving on a port (R148, R151). -/

namespace Sys2Proof.Machine

/-- UNKNOWN_KIND (R151, check 1). -/
def execUnknownKind (port : Port) (kind : Byte) (payload : List Byte) (s : State) : Result :=
  .next (s.receiveFrame port kind payload)

/-- JOIN (R125). -/
def execJoin (port : Port) (role : Byte) (s : State) : Result := .next (s.receive port (.join role))

/-- REPORT_CLUSTER (R122, R124, R130). -/
def execReportCluster (port : Port) (output available applied : BitVec 32) (s : State) : Result :=
  .next (s.receive port (.reportCluster output available applied))

/-- REPORT_STORAGE (R77, R122). -/
def execReportStorage (port : Port) (applied discharge charge soe capacity : BitVec 32) (s : State) : Result :=
  .next (s.receive port (.reportStorage applied discharge charge soe capacity))

/-- YIELD (R119, R120). -/
def execYield (port : Port) (value : BitVec 32) (s : State) : Result := .next (s.receive port (.yield value))

/-- LEAVE (R126). -/
def execLeave (port : Port) (s : State) : Result := .next (s.receive port .leave)

/-- PUSH (R43, R44). -/
def execPush (port : Port) (block : ProfileBlock) (delay : Byte) (expiry : BitVec 16) (s : State) : Result :=
  .next (s.receive port (.push block delay expiry))

/-- DROP (R45). -/
def execDrop (port : Port) (s : State) : Result := .next (s.receive port .drop)

/-- QUERY_STATUS (R25, R145, R158): target 0. -/
def execQueryStatus (port : Port) (index : BitVec 16) (count : Byte) (s : State) : Result :=
  .next (s.receive port (.query 0#8 index count))

/-- QUERY_PORT (R90, R132, R158): target 1. -/
def execQueryPort (port : Port) (index : BitVec 16) (count : Byte) (s : State) : Result :=
  .next (s.receive port (.query 1#8 index count))

/-- QUERY_HISTORY (R38, R39, R158): target 2. -/
def execQueryHistory (port : Port) (index : BitVec 16) (count : Byte) (s : State) : Result :=
  .next (s.receive port (.query 2#8 index count))

/-- QUERY_CHANNEL (R75, R158): target 3. -/
def execQueryChannel (port : Port) (index : BitVec 16) (count : Byte) (s : State) : Result :=
  .next (s.receive port (.query 3#8 index count))

/-- QUERY_LIST (R54, R158): target 4. -/
def execQueryList (port : Port) (index : BitVec 16) (count : Byte) (s : State) : Result :=
  .next (s.receive port (.query 4#8 index count))

/-- QUERY_COUNTERS (R158, R163): target 5. -/
def execQueryCounters (port : Port) (index : BitVec 16) (count : Byte) (s : State) : Result :=
  .next (s.receive port (.query 5#8 index count))

/-- SETSITE (R138). -/
def execSetSite (port : Port) (fields : SiteFields) (s : State) : Result := .next (s.receive port (.setSite fields))

/-- SETPORT (R139, R140). -/
def execSetPort (port : Port) (fields : PortFields) (s : State) : Result := .next (s.receive port (.setPort fields))

/-- SETCHAN (R56). -/
def execSetChan (port : Port) (fields : ChannelFields) (s : State) : Result := .next (s.receive port (.setChan fields))

/-- SETPROF (R41). -/
def execSetProf (port : Port) (block : ProfileBlock) (s : State) : Result := .next (s.receive port (.setProf block))

/-- MODE_RUN (R141, R142): MODE request 1. -/
def execModeRun (port : Port) (s : State) : Result := .next (s.receive port (.mode 1#8))

/-- MODE_STANDBY (R142): MODE request 0. -/
def execModeStandby (port : Port) (s : State) : Result := .next (s.receive port (.mode 0#8))

/-- CLEAR_COUNTERS (R161): selector 0. -/
def execClearCounters (port : Port) (channel : Byte) (s : State) : Result := .next (s.receive port (.clear 0#8 channel))

/-- CLEAR_ALARMS (R71, R161): selector 1. -/
def execClearAlarms (port : Port) (channel : Byte) (s : State) : Result := .next (s.receive port (.clear 1#8 channel))

/-- CLEAR_NOTICES (R161): selector 2. -/
def execClearNotices (port : Port) (channel : Byte) (s : State) : Result := .next (s.receive port (.clear 2#8 channel))

/-- RESTART (R144). -/
def execRestart (port : Port) (s : State) : Result := .next (s.receive port .restart)

end Sys2Proof.Machine
end

