-- ==== Sys2Proof/Machine/Dispatch.lean ====
section
/-! DEFINITION. The dispatch: one arm per command. -/

namespace Sys2Proof.Machine

/-- The command's effect on everything but the queue of commands. -/
def exec (i : Instr) (s : State) : Host.Outcome State Fault Refusal :=
  match i with
  | .powerOn => Sys2Proof.Machine.execPowerOn s
  | .resetLine => Sys2Proof.Machine.execResetLine s
  | .configReadComplete memory => Sys2Proof.Machine.execConfigReadComplete memory s
  | .frameExpiry => Sys2Proof.Machine.execFrameExpiry s
  | .primingEnd => Sys2Proof.Machine.execPrimingEnd s
  | .profileActivation position => Sys2Proof.Machine.execProfileActivation position s
  | .profileExpiry position => Sys2Proof.Machine.execProfileExpiry position s
  | .yieldTimeout port => Sys2Proof.Machine.execYieldTimeout port s
  | .silenceTimeout port => Sys2Proof.Machine.execSilenceTimeout port s
  | .scanExpiry => Sys2Proof.Machine.execScanExpiry s
  | .sampleReceived high mid low status => Sys2Proof.Machine.execSampleReceived high mid low status s
  | .converterAnswerTimeout => Sys2Proof.Machine.execConverterAnswerTimeout s
  | .frameRejected port => Sys2Proof.Machine.execFrameRejected port s
  | .interByteGapTimeout port => Sys2Proof.Machine.execInterByteGapTimeout port s
  | .unknownKind port kind payload => Sys2Proof.Machine.execUnknownKind port kind payload s
  | .join port role => Sys2Proof.Machine.execJoin port role s
  | .reportCluster port output available applied => Sys2Proof.Machine.execReportCluster port output available applied s
  | .reportStorage port applied discharge charge soe capacity => Sys2Proof.Machine.execReportStorage port applied discharge charge soe capacity s
  | .yield port value => Sys2Proof.Machine.execYield port value s
  | .leave port => Sys2Proof.Machine.execLeave port s
  | .push port block delay expiry => Sys2Proof.Machine.execPush port block delay expiry s
  | .drop port => Sys2Proof.Machine.execDrop port s
  | .queryStatus port index count => Sys2Proof.Machine.execQueryStatus port index count s
  | .queryPort port index count => Sys2Proof.Machine.execQueryPort port index count s
  | .queryHistory port index count => Sys2Proof.Machine.execQueryHistory port index count s
  | .queryChannel port index count => Sys2Proof.Machine.execQueryChannel port index count s
  | .queryList port index count => Sys2Proof.Machine.execQueryList port index count s
  | .queryCounters port index count => Sys2Proof.Machine.execQueryCounters port index count s
  | .setSite port fields => Sys2Proof.Machine.execSetSite port fields s
  | .setPort port fields => Sys2Proof.Machine.execSetPort port fields s
  | .setChan port fields => Sys2Proof.Machine.execSetChan port fields s
  | .setProf port block => Sys2Proof.Machine.execSetProf port block s
  | .modeRun port => Sys2Proof.Machine.execModeRun port s
  | .modeStandby port => Sys2Proof.Machine.execModeStandby port s
  | .clearCounters port channel => Sys2Proof.Machine.execClearCounters port channel s
  | .clearAlarms port channel => Sys2Proof.Machine.execClearAlarms port channel s
  | .clearNotices port channel => Sys2Proof.Machine.execClearNotices port channel s
  | .restart port => Sys2Proof.Machine.execRestart port s
  | .restartTaken => Sys2Proof.Machine.execRestartTaken s
  | .transmitComplete port => Sys2Proof.Machine.execTransmitComplete port s
  | .linkByteReceived port byte stopBit => Sys2Proof.Machine.execLinkByteReceived port byte stopBit s

end Sys2Proof.Machine
end

