-- ==== Sys2Proof/Safety.lean ====
section
/-! DEFINITION. What a good state of the part is, in the terms the statements use: one predicate for each law of the manual that every
event keeps. -/

namespace Sys2Proof.Machine

/-- The modes in which every port is ABSENT and no timer runs (R1, R2, R57, section 8.4). -/
def Mode.idle (m : Mode) : Prop := m = .loading ∨ m = .standby

/-! ### Timers, scan, list and records follow the mode -/

/-- The timers run exactly in PRIMING, GOVERNING and HOLDING (R2, R57), a scan is in progress only then (R59), the image is read exactly
in LOADING (R133, R136), and in LOADING and STANDBY the list holds no pushed entry (R51) and every record is ABSENT (R108). -/
structure State.FollowsMode (s : State) : Prop where
  frameTimer : s.frameTimer ≠ .stopped ↔ s.mode.running = true
  scanTimer : s.scanTimer ≠ .stopped ↔ s.mode.running = true
  scan : s.scan.isSome = true → s.mode.running = true
  reading : s.readProgress = .reading ↔ s.mode = .loading
  list : s.mode.idle → s.entries = []
  absent : s.mode.idle → ∀ p, (s.record p).participation = .absent

/-- The sweep order names each of the twelve ports once (R95, R96), and the sweep LFSR is never 0 (R91, R94). -/
structure State.SweepInOrder (s : State) : Prop where
  order : s.sweepOrder.Perm (List.finRange 12)
  lfsr : s.sweepLfsr ≠ 0

/-! ### Link ports -/

/-- A link port as R149, R150, R153, R154 and R159 keep it. -/
structure LinkPort.Disciplined (l : LinkPort) : Prop where
  /-- At most four messages wait. -/
  length : l.queue.length ≤ 4
  /-- At most one of them is a LIMIT. -/
  oneLimit : (l.queue.filter Message.isLimit).length ≤ 1
  /-- A notice never waits in the queue. -/
  noNotice : ∀ m ∈ l.queue, m.isLimit = true ∨ m.isReply = true
  /-- At most one entry of each notice kind, by rising kind code. -/
  kinds : (l.notices.map fun e => e.notice.code).Pairwise (· < ·)
  /-- Every count of a pending notice is 1 … 255. -/
  counts : ∀ e ∈ l.notices, 1 ≤ e.count ∧ e.count ≤ 255
  /-- Fewer than eight rejections in a row are counted. -/
  rejections : l.rejections < 8
  /-- A DOWN link holds nothing and sends nothing. -/
  down : l.up = false → l.queue = [] ∧ l.notices = [] ∧ l.transmitter = .idle ∧ l.rejections = 0
  /-- An idle transmitter has nothing to send. -/
  idle : l.transmitter = .idle → l.queue = [] ∧ l.notices = []

/-- Every link port is disciplined. -/
def State.LinksDisciplined (s : State) : Prop := ∀ p, (s.link p).Disciplined

/-! ### The History Ring -/

/-- At most 600 records, frame numbers increasing by exactly one, the newest that of the last frame; none in PRIMING; and no more
since the window base than are held (R26, R28, R29). The ring is held newest first. -/
structure State.RingInOrder (s : State) : Prop where
  capacity : s.ring.length ≤ 600
  consecutive : s.ring.IsChain fun newer older => newer.number = older.number + 1
  since : s.sinceBase ≤ s.ring.length
  priming : s.mode = .priming → s.ring = [] ∧ s.frameNumber = 0
  newest : s.mode = .governing ∨ s.mode = .holding → ∀ r, s.ring.head? = some r → r.number = s.frameNumber

/-! ### Commitments -/

/-- The port table's figures are not negative (R139). -/
def State.TableInRange (s : State) : Prop :=
  ∀ p, 0 ≤ (s.config p).rated ∧ 0 ≤ (s.config p).fallback ∧ 0 ≤ (s.config p).ratedCharge

/-- The export commitment stays within the export limit while the part runs, with what that rests on: every port counted at fb or 0 while
the part does not run, every recall below its committed value, and no last-sent value above it (R108, R111, R112, R119). A port is RECALLING
exactly when it is steered (ENGAGED or RECALLING) and has an outstanding recall (R109), and an ABSENT port has no recall, no staged raise and no
desired value (section 7.2, R108). -/
structure State.CommitmentsKept (s : State) : Prop where
  table : s.TableInRange
  resting : s.mode.idle → ∀ p, (s.record p).participation = .absent ∧ (s.record p).committed = (s.config p).rest ∧
    (s.record p).outstanding = none
  withinLimit : s.mode.running = true → s.exportCommitment ≤ s.site.exportLimit
  recallBelow : ∀ p r, (s.record p).outstanding = some r → r.value < (s.record p).committed
  lastSent : ∀ p v, (s.record p).participation ≠ .absent → (s.record p).lastSent = some v → v ≤ (s.record p).committed
  recalling : ∀ p, (s.record p).participation = .recalling ↔
    ((s.record p).participation = .engaged ∨ (s.record p).participation = .recalling) ∧ (s.record p).outstanding ≠ none
  absent : ∀ p, (s.record p).participation = .absent →
    (s.record p).outstanding = none ∧ (s.record p).staged = none ∧ (s.record p).desired = none

/-! ### Channels -/

/-- A channel has a current value exactly when it is VALID (R55), its group is never full (R63), its buffer never over M (R64), and it is
OFF exactly when its kind is (R56); its loss mark is clear while it is VALID (section 4.1, R68; log entry 12). -/
structure Channel.InOrder (c : Channel) : Prop where
  value : c.value.isSome = true ↔ c.state = .valid
  group : c.group.length < c.config.groupSize
  buffer : c.buffer.length ≤ c.config.averaging
  positive : 1 ≤ c.config.averaging
  off : c.state = .off ↔ c.config.kind = .off
  run : c.missingRun ≤ c.config.missLimit
  mark : c.state = .valid → c.lossMark = false

/-- Every channel is in order, and the channel being read is not OFF (R58). While the part runs exactly one channel is the meter (R141); it
is VALID throughout GOVERNING, and in HOLDING it is not VALID and its loss mark says so (R22, R23, R68, R143). -/
structure State.ChannelsInOrder (s : State) : Prop where
  channels : ∀ c, (s.channel c).InOrder
  reading : ∀ scan, s.scan = some scan → (s.channel scan.channel).state ≠ .off
  meter : s.mode.running = true → ∃! c, (s.channel c).config.kind = .poiPower
  governing : s.mode = .governing → ∀ c, (s.channel c).config.kind = .poiPower → (s.channel c).state = .valid
  holding : s.mode = .holding → ∀ c, (s.channel c).config.kind = .poiPower →
    (s.channel c).state ≠ .valid ∧ (s.channel c).lossMark = true

/-! ### The Profile List -/

/-- At most four pushed entries, each with its fields in range, and the default profile in range and not BOUND (R41, R42, R44). -/
structure State.ListInOrder (s : State) : Prop where
  capacity : s.entries.length ≤ 4
  entries : ∀ e ∈ s.entries, e.profile.inRange = true
  default : s.defaultProfile.inRange = true
  unbound : s.defaultProfile.bound = false

/-! ### The reference -/

/-- What the reference's range rests on: the figures that enter T, Dmax and the seed are not negative (R8 to R11, R81, R124). -/
structure State.FiguresKept (s : State) : Prop where
  table : s.TableInRange
  limit : 0 ≤ s.site.exportLimit
  clusters : ∀ p, 0 ≤ (s.record p).cluster.output ∧ 0 ≤ (s.record p).cluster.available
  discharges : ∀ p, 0 ≤ (s.record p).storage.discharge ∧ 0 ≤ (s.record p).storage.dischargeAvailability
  stale : ∀ p, (s.config p).role = .storage → (s.record p).participation = .stale → 0 ≤ (s.record p).committed
  ratios : ∀ c, 0 ≤ (s.channel c).ratio
  reference : s.mode.running = true → 0 ≤ s.reference ∧ s.reference ≤ s.site.exportLimit

/-! ### Ratings -/

/-- The values of a cluster or storage port that takes part lie within its ratings (R77 to R79, R85, R86, R89, R101 to R103, R109, R124). -/
structure PortRecord.WithinRatings (c : PortConfig) (r : PortRecord) : Prop where
  committed : c.least ≤ r.committed ∧ r.committed ≤ c.rated
  outstanding : ∀ u, r.outstanding = some u → c.least ≤ u.value ∧ u.value ≤ c.rated
  staged : ∀ v, r.staged = some v → c.least ≤ v ∧ v ≤ c.rated
  desired : ∀ v, r.desired = some v → c.least ≤ v ∧ v ≤ c.rated
  available : c.role = .cluster → 0 ≤ r.cluster.available ∧ r.cluster.available ≤ c.rated
  discharge : c.role = .storage → 0 ≤ r.storage.discharge ∧ r.storage.discharge ≤ c.rated
  charge : c.role = .storage → 0 ≤ r.storage.charge ∧ r.storage.charge ≤ c.ratedCharge

/-- While the part runs every port that takes part is within its ratings, an ABSENT one is counted at fb or 0, and no fallback lies above its cluster's
rating (R108, R109, R141); a ratio lies in 0 … 256 (R73). -/
structure State.RatingsKept (s : State) : Prop where
  table : s.TableInRange
  ratios : ∀ c, 0 ≤ (s.channel c).ratio ∧ (s.channel c).ratio ≤ 256
  fallbacks : s.mode.running = true → ∀ p, (s.config p).role = .cluster → (s.config p).fallback ≤ (s.config p).rated
  steered : s.mode.running = true → ∀ p, (s.config p).role.steerable = true → (s.record p).participation ≠ .absent →
    PortRecord.WithinRatings (s.config p) (s.record p)
  absent : s.mode.running = true → ∀ p, (s.record p).participation = .absent → (s.record p).committed = (s.config p).rest

/-! ### What the statements are said with -/

/-- The start values of every block (R1, R26, R40, R51, R55, R76, R91, R108, R133, R138, R139, R146). The restart cause, the queue of
commands and the model's own count are not among them. -/
structure State.AtStart (s : State) : Prop where
  mode : s.mode = .loading
  check : s.checkResult = .none
  noRestart : s.restartPending = none
  holding : s.holdingEntries = 0
  reading : s.readProgress = .reading
  site : s.site = ⟨1000000, 200, 50, 3, 10, 25, 0, 0, .sequential, .rotate, 0#16⟩
  table : ∀ p, s.config p = ⟨.unused, 0, 0, none, 0, 0⟩
  timers : s.frameTimer = .stopped ∧ s.scanTimer = .stopped ∧ s.scan = none
  governor : s.frameNumber = 0 ∧ s.primingCounter = 0 ∧ s.reference = 0 ∧ s.target = 0 ∧ s.storageNet = 0
  plantCounters : s.excursions = 0 ∧ s.windowConflicts = 0 ∧ s.complianceEpisodes = 0
  history : s.ring = [] ∧ s.windowBase = 0 ∧ s.sinceBase = 0 ∧ s.reseedPending = false ∧ s.complianceLatched = false
  profile : s.defaultProfile = ⟨20000, 20000, 2000, 2000, 300, 256, false, false, false, false, 0, 0⟩
  list : s.entries = []
  channels : ∀ c, s.channel c = ⟨⟨.off, 0, 0, 65536, 0, .mean, 1, 1, 3, false, false, -8388608, 8388607, 0⟩, .off, 0, [], [], none, 0,
    false, 0, 256, false, false, 0⟩
  sweep : s.sweepStart = 0 ∧ s.sweepLfsr = 0x5A5A#16 ∧ s.sweepOrder = [0, 1, 2, 3, 4, 5, 6, 7, 8, 9, 10, 11]
  records : ∀ p, s.record p = ⟨.absent, 0, none, none, none, none, ⟨0, 0, 0⟩, ⟨0, 0, 0, 0, 0, 0, 0⟩, 0, 0, none, false, 0, 0, 0⟩
  links : ∀ p, s.link p = ⟨.hunt, false, 0, [], .idle, [], 0, 0⟩

/-- A port has supervisory standing: its role is SUPERVISOR, or open access is in force (R140). -/
def State.Supervises (s : State) (p : Port) : Prop :=
  (s.config p).role = .supervisor ∨ (s.mode = .standby ∧ ∀ q, (s.config q).role ≠ .supervisor)

/-- A port may send a request: a cluster's or storage controller's kinds from a CLUSTER or STORAGE port, any other from a port of
supervisory standing (R140, R152). -/
def State.MayAsk (s : State) (p : Port) (r : Request) : Prop :=
  if Request.ofController r = true then (s.config p).role = .cluster ∨ (s.config p).role = .storage else s.Supervises p

/-- The fallback of a cluster, and 0 for any other port: "fb/0" (R108). -/
def State.fbOrZero (s : State) (p : Port) : Int := if (s.config p).role = .cluster then (s.config p).fallback else 0

/-- The link of port `q` once a frame from `p` is accepted and the messages `ms` are queued, oldest first (R148, R154). -/
def State.linkAfter (s : State) (p : Port) (ms : Port → List Message) (q : Port) : LinkPort :=
  (ms q).foldl LinkPort.enqueue (if q = p then (s.link q).accept else s.link q)

/-- Messages for one port alone. -/
def only (p : Port) (ms : List Message) (q : Port) : List Message := if q = p then ms else []

/-- A link of port `q` once notices are raised under the standing of `s` (R159). -/
def State.notified (s : State) (ns : List Notice) (q : Port) (l : LinkPort) : LinkPort :=
  if s.supervisory q then ns.foldl LinkPort.raise l else l

/-- `w` is `base`, in which a request from `p` has had its effect on `s`, with what a request does besides: its frame is accepted, the
port's silence count is 0, the messages `ms` are queued on it and the notices `ns` are raised. -/
structure State.Answers (s base w : State) (p : Port) (ms : List Message) (ns : List Notice) : Prop where
  links : ∀ q, w.link q = base.notified ns q (s.linkAfter p (only p ms) q)
  heard : w.record p = { base.record p with silence := 0 }
  others : ∀ q, q ≠ p → w.record q = base.record q
  rest : w = { base with links := w.links, records := w.records }

/-- The silence count of a port at the expiry that `s` is about to take (R114). -/
def State.silenceAt (s : State) (p : Port) : Nat :=
  let r := s.record p
  if r.participation ≠ .absent ∧ r.silence < s.site.silenceLimit then r.silence + 1 else r.silence

/-- At the expiry that `s` is about to take, a recall of the port has stood for the yield limit (R113). -/
def State.timesOutAt (s : State) (p : Port) : Bool :=
  let r := s.record p
  s.mode != .priming && r.participation == .recalling &&
    r.outstanding.any fun u => s.site.yieldLimit ≤ (s.frameNumber + 1 - u.firstSend).toNat

/-- At the expiry that `s` is about to take, the port's silence count reaches its limit (R114, R121). -/
def State.fallsSilentAt (s : State) (p : Port) : Bool :=
  let r := s.record p
  r.participation != .absent && !(r.participation == .stale && r.cause == some .silence) && s.site.silenceLimit ≤ s.silenceAt p

/-- A port's entries into STALE at the expiry that `s` is about to take: the timeout first, then the silence, each with the committed value it leaves
(R81, R113, R114, R121, R131). -/
def State.portStaleEntries (s : State) (p : Port) : List Notice :=
  let c := (s.record p).committed
  (if s.timesOutAt p then [.portStale p .yieldTimeout (if (s.config p).role = .storage then max c 0 else c)] else []) ++
    if s.fallsSilentAt p then [.portStale p .silence (max c (s.fbOrZero p))] else []

/-- `ns` are the PORT_STALE notices of that expiry: one for each entry into STALE, those of a port in their order. The order of the ports is open
(log entry 3), and a timeout comes before the silence of its own port, not before that of every port (log entry 21). -/
def State.StaleNotices (s : State) (ns : List Notice) : Prop :=
  ns.Perm ((List.finRange 12).flatMap s.portStaleEntries) ∧ ∀ p, (s.portStaleEntries p).Sublist ns

/-- A channel is read when a scan visits it: it is not OFF and its skip counter is 0 (R58). -/
def Channel.Due (c : Channel) : Prop := c.state ≠ .off ∧ c.skipCounter = 0

/-- A channel that a scan visits and does not read (R58). -/
def Channel.passed (c : Channel) : Channel := if c.state = .off then c else { c with skipCounter := c.skipCounter - 1 }

/-- `w` is `s` once the channels from number `n` on have been visited up to the next read, or to the end of the scan (R58). -/
structure State.Visited (s w : State) (n : Nat) : Prop where
  rest : w = { s with scan := w.scan, channels := w.channels }
  before : ∀ j, j.val < n → w.channel j = s.channel j
  read : ∀ i, n ≤ i.val → (s.channel i).Due → (∀ j, n ≤ j.val → j < i → ¬(s.channel j).Due) →
    w.scan = some ⟨i, (s.channel i).config.address⟩ ∧
    w.channel i = { s.channel i with skipCounter := (s.channel i).config.skip } ∧
    (∀ j, n ≤ j.val → j < i → w.channel j = (s.channel j).passed) ∧ ∀ j, i < j → w.channel j = s.channel j
  ended : (∀ i, n ≤ i.val → ¬(s.channel i).Due) → w.scan = none ∧ ∀ j, n ≤ j.val → w.channel j = (s.channel j).passed

/-! #### The layouts of section 9.6 -/

/-- The `n` bytes from `at_` on carry `v`, most significant first, a negative number in two's complement (R157). -/
def carries (bytes : List Byte) (at_ n : Nat) (v : Int) : Prop :=
  (bytes.drop at_).take n = (List.range n).map fun k => BitVec.ofInt 8 (v / 256 ^ (n - 1 - k))

/-- A flag at its position of a flags byte (R157). -/
def flagAt (position : Int) (flag : Bool) : Int := if flag then position else 0

/-- The codes of a mode (R157). -/
def modeCode (m : Mode) : Int :=
  match m with
  | .loading => 0
  | .standby => 1
  | .priming => 2
  | .governing => 3
  | .holding => 4

/-- The kind code of a notice and its four detail bytes (R157). -/
def Notice.LaidOut (n : Notice) : Prop :=
  let d := n.detail
  let kind (code : Nat) : Prop := n.code = code ∧ d.length = 4
  match n with
  | .modeChange left entered => kind 1 ∧ carries d 0 1 (modeCode left) ∧ carries d 1 1 (modeCode entered) ∧ carries d 2 2 0
  | .meterLost channel missLimit => kind 2 ∧ carries d 0 1 channel.val ∧ carries d 1 1 missLimit ∧ carries d 2 2 0
  | .meterBack channel value => kind 3 ∧ carries d 0 1 channel.val ∧ carries d 1 3 value
  | .portStale port cause committed =>
    kind 4 ∧ carries d 0 1 (port.val + 16 * match cause with | .silence => 1 | .yieldTimeout => 2) ∧ carries d 1 3 committed
  | .excursion amount => kind 5 ∧ carries d 0 4 amount
  | .windowConflict amount => kind 6 ∧ carries d 0 4 amount
  | .compliance amount => kind 7 ∧ carries d 0 4 amount
  | .portOverrun port output => kind 8 ∧ carries d 0 1 port.val ∧ carries d 1 3 output
  | .channelAlarm channel high value => kind 9 ∧ carries d 0 1 (channel.val + flagAt 16 high) ∧ carries d 1 3 value
  | .listChange cause port held active =>
    kind 10 ∧
      carries d 0 1 (match cause with
        | .pushed => 1 | .activated => 2 | .expired => 3 | .dropped => 4 | .unbound => 5 | .discarded => 6 | .defaultSet => 7) ∧
      carries d 1 1 (port.elim 255 fun p => p.val) ∧ carries d 2 1 held ∧ carries d 3 1 active

/-- A profile block at a place of a reply (R157). -/
def Profile.LaidOut (p : Profile) (b : List Byte) (at_ : Nat) : Prop :=
  carries b at_ 4 p.lup ∧ carries b (at_ + 4) 4 p.ldn ∧ carries b (at_ + 8) 4 p.sup ∧ carries b (at_ + 12) 4 p.sdn ∧
    carries b (at_ + 16) 2 p.window ∧ carries b (at_ + 18) 2 p.blend ∧
    carries b (at_ + 20) 1 (flagAt 1 p.anticipate + flagAt 2 p.restore + flagAt 4 p.reseed + flagAt 8 p.bound) ∧
    carries b (at_ + 21) 4 p.restoreRate ∧ carries b (at_ + 25) 1 p.soeTarget

/-- A PORT reply: the common part and the part of the role (R157). -/
def PortRecord.LaidOut (c : PortConfig) (r : PortRecord) (b : List Byte) : Prop :=
  carries b 0 1 (match c.role with | .unused => 0 | .cluster => 1 | .storage => 2 | .supervisor => 3) ∧
    carries b 1 1 (match r.participation with | .absent => 0 | .engaged => 1 | .recalling => 2 | .stale => 3) ∧
    carries b 2 1 (match r.cause with | none => 0 | some .silence => 1 | some .yieldTimeout => 2) ∧
    carries b 3 1 (flagAt 1 r.lastSent.isSome + flagAt 2 r.outstanding.isSome + flagAt 4 r.staged.isSome +
      flagAt 8 r.desired.isSome + flagAt 16 r.overrun) ∧
    carries b 4 3 r.committed ∧ carries b 7 3 (r.lastSent.getD 0) ∧ carries b 10 3 (r.outstanding.elim 0 fun u => u.value) ∧
    carries b 13 4 (r.outstanding.elim 0 fun u => u.firstSend.toNat) ∧ carries b 17 3 (r.staged.getD 0) ∧
    carries b 20 3 (r.desired.getD 0) ∧ carries b 23 2 r.reportAge ∧ carries b 25 1 r.silence ∧
    match c.role with
    | .cluster =>
      carries b 26 3 c.rated ∧ carries b 29 3 c.fallback ∧ carries b 32 1 (c.lead.elim 255 fun i => i.val) ∧
        carries b 33 3 r.cluster.output ∧ carries b 36 3 r.cluster.available ∧ carries b 39 3 r.cluster.applied ∧ carries b 42 16 0
    | .storage =>
      carries b 26 3 c.rated ∧ carries b 29 3 c.ratedCharge ∧ carries b 32 3 c.reserve ∧ carries b 35 3 r.storage.applied ∧
        carries b 38 3 r.storage.discharge ∧ carries b 41 3 r.storage.charge ∧ carries b 44 4 r.storage.soe ∧
        carries b 48 4 r.storage.capacity ∧ carries b 52 3 r.storage.dischargeAvailability ∧ carries b 55 3 r.storage.chargeAvailability
    | _ => carries b 26 32 0

/-- A HISTORY slot at a place of a reply (R39, R157). -/
def slotLaidOut (slot : Option FrameRecord) (b : List Byte) (at_ : Nat) : Prop :=
  match slot with
  | none => carries b at_ 18 0
  | some r =>
    carries b at_ 1 (1 + flagAt 2 r.measured.isSome) ∧ carries b (at_ + 1) 4 r.number.toNat ∧ carries b (at_ + 5) 3 r.reference ∧
      carries b (at_ + 8) 3 r.target ∧ carries b (at_ + 11) 3 (r.measured.getD 0) ∧ carries b (at_ + 14) 3 r.storageNet ∧
      carries b (at_ + 17) 1 (flagAt 1 r.marks.excursion + flagAt 2 r.marks.windowConflict + flagAt 4 r.marks.hold +
        flagAt 8 r.marks.compliance + flagAt 16 r.marks.reseed)

/-- The data of a REPLY (R157). That the byte "slot present" of a LIST slot that is present is 1 is the model's choice (DESIGN CHOICE, log entry
20). -/
def ReplyData.LaidOut (data : ReplyData) : Prop :=
  let b := data.bytes
  match data with
  | .status d =>
    b.length = 31 ∧ carries b 0 1 (modeCode d.mode) ∧
      carries b 1 1 (match d.cause with | .power => 0 | .line => 1 | .command _ => 2) ∧
      carries b 2 1 (match d.cause with | .command p => p.val | _ => 255) ∧
      carries b 3 1 (match d.check with
        | .none => 0 | .passed => 1 | .format => 2 | .length => 3 | .crc => 4 | .record => 5 | .range => 6 | .noMeter => 7
        | .noCluster => 8 | .roleCount => 9 | .rating => 10 | .fallback => 11 | .fallbackSum => 12 | .lead => 13) ∧
      carries b 4 4 d.frame.toNat ∧ carries b 8 4 d.reference ∧ carries b 12 4 d.target ∧ carries b 16 4 d.storageNet ∧
      carries b 20 4 d.net ∧ carries b 24 4 d.exported ∧ carries b 28 1 d.activePosition ∧
      carries b 29 1 (d.activePort.elim 255 fun p => p.val) ∧ carries b 30 1 (flagAt 1 d.latched)
  | .port c r => b.length = 58 ∧ r.LaidOut c b
  | .history first second => b.length = 36 ∧ slotLaidOut first b 0 ∧ slotLaidOut second b 18
  | .channel c =>
    b.length = 11 ∧ carries b 0 1 (match c.config.kind with | .off => 0 | .poiPower => 1 | .irradiance => 2 | .aux => 3) ∧
      carries b 1 1 (match c.state with | .off => 0 | .filling => 1 | .valid => 2 | .lost => 3) ∧
      carries b 2 1 (flagAt 1 c.value.isSome + flagAt 2 c.lowAlarm + flagAt 4 c.highAlarm) ∧ carries b 3 3 (c.value.getD 0) ∧
      carries b 6 3 c.track ∧ carries b 9 2 c.ratio
  | .list held active slot =>
    b.length = 36 ∧ carries b 0 1 held ∧ carries b 1 1 active ∧
      match slot with
      | .absent => carries b 2 34 0
      | .default p => carries b 2 1 1 ∧ p.LaidOut b 3 ∧ carries b 29 7 0
      | .entry e =>
        carries b 2 1 1 ∧ e.profile.LaidOut b 3 ∧ carries b 29 1 e.port.val ∧ carries b 30 1 e.delay ∧ carries b 31 2 e.expiry ∧
          carries b 33 1 (match e.state with | .pending => 0 | .active => 1) ∧ carries b 34 2 e.frames
  | .counters values =>
    values.length ≤ 24 → b.length = 48 ∧ (∀ k v : Nat, values[k]? = some v → carries b (2 * k) 2 v) ∧
      carries b (2 * values.length) (48 - 2 * values.length) 0

/-- Commands taken one after the other. -/
def runCommands : List Instr → State → Host.Outcome State Fault Refusal
  | [], s => .next s
  | c :: rest, s =>
    match exec c s with
    | .next t => runCommands rest t
    | .fault f => .fault f
    | .refused r => .refused r

/-- The CRC register shifted by one bit of the bytes it is taken over: polynomial 0x1021 (R135). -/
def crcShift (crc : BitVec 16) (bit : Bool) : BitVec 16 := (crc <<< 1) ^^^ if crc.msb = bit then 0 else 0x1021#16

/-- The bits of a list of bytes, each byte most significant bit first (R135). -/
def bitsOf (bytes : List Byte) : List Bool := bytes.flatMap fun b => [7, 6, 5, 4, 3, 2, 1, 0].map b.getLsbD

/-- The bytes of an image's records (R135). -/
def imageRecords (rs : List Request) : List Byte := rs.flatMap fun r => r.kind :: r.payload

/-- A whole image: format, length, records and CRC (R135). -/
def imageOf (rs : List Request) : List Byte :=
  let body := [1#8] ++ bigEndian 2 ((imageRecords rs).length + 5 : Nat) ++ imageRecords rs
  body ++ bigEndian 2 (crc16 body).toNat

end Sys2Proof.Machine

namespace Sys2Proof

open Machine (carries)

/-- A profile block at the front of a payload (R157). -/
def ProfileBlock.LaidOut (b : ProfileBlock) (p : List Byte) : Prop :=
  carries p 0 4 b.lup.toNat ∧ carries p 4 4 b.ldn.toNat ∧ carries p 8 4 b.sup.toNat ∧ carries p 12 4 b.sdn.toNat ∧
    carries p 16 2 b.window.toNat ∧ carries p 18 2 b.blend.toNat ∧ carries p 20 1 b.flags.toNat ∧ carries p 21 4 b.restoreRate.toNat ∧
    carries p 25 1 b.soeTarget.toNat

/-- The kind code of a request, the length of its payload, and where each field of it stands; the fields marked "s" in the table are signed (R157). -/
def Request.LaidOut (r : Request) : Prop :=
  let p := r.payload
  let row (code length : Nat) : Prop := r.kind.toNat = code ∧ p.length = length
  match r with
  | .join role => row 0x10 1 ∧ carries p 0 1 role.toNat
  | .reportCluster output available applied =>
    row 0x11 12 ∧ carries p 0 4 output.toNat ∧ carries p 4 4 available.toNat ∧ carries p 8 4 applied.toNat
  | .reportStorage applied discharge charge soe capacity =>
    row 0x11 20 ∧ carries p 0 4 applied.toInt ∧ carries p 4 4 discharge.toNat ∧ carries p 8 4 charge.toNat ∧
      carries p 12 4 soe.toNat ∧ carries p 16 4 capacity.toNat
  | .yield value => row 0x12 4 ∧ carries p 0 4 value.toInt
  | .leave => row 0x13 0
  | .push block delay expiry => row 0x20 29 ∧ block.LaidOut p ∧ carries p 26 1 delay.toNat ∧ carries p 27 2 expiry.toNat
  | .drop => row 0x21 0
  | .query target index count => row 0x22 4 ∧ carries p 0 1 target.toNat ∧ carries p 1 2 index.toNat ∧ carries p 3 1 count.toNat
  | .setSite f =>
    row 0x23 21 ∧ carries p 0 4 f.exportLimit.toNat ∧ carries p 4 2 f.framePeriod.toNat ∧ carries p 6 2 f.scanPeriod.toNat ∧
      carries p 8 1 f.yieldLimit.toNat ∧ carries p 9 1 f.silenceLimit.toNat ∧ carries p 10 1 f.primingFrames.toNat ∧
      carries p 11 3 f.tolerance.toNat ∧ carries p 14 3 f.margin.toNat ∧ carries p 17 1 f.sweepMode.toNat ∧
      carries p 18 1 f.startMode.toNat ∧ carries p 19 2 f.seed.toNat
  | .setPort f =>
    row 0x24 19 ∧ carries p 0 1 f.port.toNat ∧ carries p 1 1 f.role.toNat ∧ carries p 2 4 f.rated.toNat ∧
      carries p 6 4 f.fallback.toNat ∧ carries p 10 1 f.lead.toNat ∧ carries p 11 4 f.ratedCharge.toNat ∧
      carries p 15 4 f.reserve.toNat
  | .setChan f =>
    row 0x25 24 ∧ carries p 0 1 f.channel.toNat ∧ carries p 1 1 f.kind.toNat ∧ carries p 2 1 f.address.toNat ∧
      carries p 3 1 f.skip.toNat ∧ carries p 4 3 f.gain.toInt ∧ carries p 7 3 f.offset.toInt ∧ carries p 10 1 f.reduction.toNat ∧
      carries p 11 1 f.groupSize.toNat ∧ carries p 12 1 f.averaging.toNat ∧ carries p 13 1 f.missLimit.toNat ∧
      carries p 14 1 f.flags.toNat ∧ carries p 15 3 f.low.toInt ∧ carries p 18 3 f.high.toInt ∧ carries p 21 3 f.decay.toNat
  | .setProf block => row 0x26 26 ∧ block.LaidOut p
  | .mode code => row 0x27 1 ∧ carries p 0 1 code.toNat
  | .clear selector channel => row 0x28 2 ∧ carries p 0 1 selector.toNat ∧ carries p 1 1 channel.toNat
  | .restart => row 0x29 0

/-- A MODE, QUERY or CLEAR with a code outside its table (R157). -/
def Request.OutsideTable (r : Request) : Prop :=
  (∃ code, r = .mode code ∧ 2 ≤ code.toNat) ∨ (∃ target index count, r = .query target index count ∧ 6 ≤ target.toNat) ∨
    ∃ selector channel, r = .clear selector channel ∧ 3 ≤ selector.toNat

/-- A site request's fields lie in their ranges, each period a whole number of steps (R138). -/
def SiteFields.InRange (f : SiteFields) : Prop :=
  (1 ≤ f.exportLimit.toNat ∧ f.exportLimit.toNat ≤ 1000000) ∧
    (100 ≤ f.framePeriod.toNat ∧ f.framePeriod.toNat ≤ 2000 ∧ f.framePeriod.toNat % 100 = 0) ∧
    (10 ≤ f.scanPeriod.toNat ∧ f.scanPeriod.toNat ≤ 1000 ∧ f.scanPeriod.toNat % 10 = 0) ∧
    (1 ≤ f.yieldLimit.toNat ∧ f.yieldLimit.toNat ≤ 15) ∧ (2 ≤ f.silenceLimit.toNat ∧ f.silenceLimit.toNat ≤ 50) ∧
    1 ≤ f.primingFrames.toNat ∧ f.tolerance.toNat ≤ 1000000 ∧ f.margin.toNat ≤ 1000000 ∧
    f.sweepMode.toNat ≤ 1 ∧ f.startMode.toNat ≤ 1

/-- A port request's fields lie in the ranges of the role they name (R139). -/
def PortFields.InRange (f : PortFields) : Prop :=
  f.port.toNat < 12 ∧
    ((f.role = 1#8 ∧ 1 ≤ f.rated.toNat ∧ f.rated.toNat ≤ 1000000 ∧ f.fallback.toNat ≤ 1000000 ∧
        (f.lead.toNat ≤ 15 ∨ f.lead = 255#8) ∧ f.ratedCharge = 0 ∧ f.reserve = 0) ∨
      (f.role = 2#8 ∧ f.rated.toNat ≤ 1000000 ∧ f.fallback = 0 ∧ f.lead = 255#8 ∧ f.ratedCharge.toNat ≤ 1000000 ∧
        f.reserve.toNat ≤ 4000000) ∨
      ((f.role = 0#8 ∨ f.role = 3#8) ∧ f.rated = 0 ∧ f.fallback = 0 ∧ f.lead = 255#8 ∧ f.ratedCharge = 0 ∧ f.reserve = 0))

/-- A channel request's fields lie in their ranges (section 4.1, R56). -/
def ChannelFields.InRange (f : ChannelFields) : Prop :=
  f.channel.toNat ≤ 15 ∧ f.kind.toNat ≤ 3 ∧ f.address.toNat ≤ 127 ∧ f.reduction.toNat ≤ 3 ∧
    (1 ≤ f.groupSize.toNat ∧ f.groupSize.toNat ≤ 16) ∧ (1 ≤ f.averaging.toNat ∧ f.averaging.toNat ≤ 8) ∧
    (1 ≤ f.missLimit.toNat ∧ f.missLimit.toNat ≤ 15) ∧ f.decay.toNat ≤ 8388607

/-- A profile block's fields lie in their ranges (section 3.1). -/
def ProfileBlock.InRange (b : ProfileBlock) : Prop :=
  b.lup.toNat ≤ 1000000 ∧ b.ldn.toNat ≤ 1000000 ∧ (1 ≤ b.sup.toNat ∧ b.sup.toNat ≤ 1000000) ∧
    (1 ≤ b.sdn.toNat ∧ b.sdn.toNat ≤ 1000000) ∧ (10 ≤ b.window.toNat ∧ b.window.toNat ≤ 600) ∧
    (1 ≤ b.blend.toNat ∧ b.blend.toNat ≤ 256) ∧ b.restoreRate.toNat ≤ 1000000 ∧ b.soeTarget.toNat ≤ 100

end Sys2Proof
end

