-- ==== Sys2Proof/Certificates/Slice0/Obligations.lean ====
section
/-! DEFINITION. The statements for the provers. Each is said of every state, or of every state that an invariant stated here rules in. -/

open Sys2Proof Sys2Proof.Machine

/-! ### Commands and the queue -/

/-- A step executes the command at the front of the queue on the state with the queue's rest; with an empty queue the part idles (the
model's choice, log entries 2 and 14). -/
def Obligations.StepTakesTheFrontCommand : Prop :=
  (∀ (c : Instr) (rest : List Instr) (s : State),
    step { s with pending := c :: rest } = exec c { s with pending := rest }) ∧
  ∀ s : State, s.pending = [] → step s = .next s

/-- Every command answers a next state in every state, and none touches the queue of commands. That the queue is left alone, by a restart too, is the
model's choice, and so is that an event which the present state rules out completes without an effect (the model's choices, log entries 4, 6, 14 and 17). -/
def Obligations.EveryCommandCompletes : Prop :=
  ∀ (c : Instr) (s : State), ∃ t, exec c s = .next t ∧ t.pending = s.pending

/-- The end of an event: every idle transmitter takes what waits and nothing else changes (R153); but where the ACK that a pending
restart waits on is neither queued nor being sent, every block takes its start values, with cause COMMAND and that port, and the commands that wait are kept (R133, R144, log entries 7, 8 and 17). -/
def Obligations.EventsEndByTransmittingOrRestarting : Prop :=
  ∀ s : State,
    ((∀ p, s.restartPending = some p → (s.link p).startSending.holdsRestartAck = true) →
      s.settle = { s with links := s.settle.links } ∧ ∀ q, s.settle.link q = (s.link q).startSending) ∧
    ∀ p, s.restartPending = some p → (s.link p).startSending.holdsRestartAck = false →
      s.settle.AtStart ∧ s.settle.restartCause = .command p ∧ s.settle.pending = s.pending

/-! ### Power, reset and restart -/

/-- State.reset has the start values and meets every invariant stated here. That it is the part right after POWER_ON, with cause POWER, the image read in
progress and no command waiting, is the model's choice (log entry 13). -/
def Obligations.ResetStateIsInOrder : Prop :=
  State.reset.AtStart ∧ State.reset.restartCause = .power ∧ State.reset.pending = [] ∧
    State.reset.FollowsMode ∧ State.reset.SweepInOrder ∧ State.reset.LinksDisciplined ∧ State.reset.RingInOrder ∧
    State.reset.CommitmentsKept ∧ State.reset.ChannelsInOrder ∧ State.reset.ListInOrder ∧ State.reset.FiguresKept ∧
    State.reset.RatingsKept

/-- POWER_ON and RESET_LINE put every block at its start values, record their cause, and begin LOADING.
RESTART is taken in every mode but LOADING: its ACK is queued and becomes the one restart pending waits on, unless a restart is
pending already. RESTART_TAKEN: once that ACK is no longer queued, every block takes its start values, with cause COMMAND and the port; with the
ACK still queued, or no restart pending, the event does not occur. The restart keeps the commands that wait (R133, R144, log entries 8 and 17). -/
def Obligations.RestartsTakeTheStartValues : Prop :=
  (∀ s : State, ∃ t u, exec .powerOn s = .next t ∧ exec .resetLine s = .next u ∧
    t.AtStart ∧ t.restartCause = .power ∧ u.AtStart ∧ u.restartCause = .line) ∧
  (∀ (s : State) (p : Port), s.mode ≠ .loading → s.Supervises p →
    (s.restartPending = none → ∃ w : State, exec (.restart p) s = .next w.settle ∧
      s.Answers { s with restartPending := some p } w p [.ack 0x29#8 false true] []) ∧
    (s.restartPending ≠ none → ∃ w : State, exec (.restart p) s = .next w.settle ∧
      s.Answers s w p [.ack 0x29#8 false false] [])) ∧
  (∀ s : State,
    (∀ p, s.restartPending = some p → (s.link p).queue.any Message.isRestartAck = false →
      ∃ t, exec .restartTaken s = .next t ∧ t.AtStart ∧ t.restartCause = .command p ∧ t.pending = s.pending) ∧
    ((s.restartPending = none ∨ ∃ p, s.restartPending = some p ∧ (s.link p).queue.any Message.isRestartAck = true) →
      exec .restartTaken s = .next s))

/-! ### The configuration image -/

/-- A whole image is read back as the requests it was built from: the records are taken in order into the staging configuration, the first
whose fields are out of range fails it with RANGE, and the cross-checks judge the rest (R135, R136).
Whatever the memory holds, a byte it does not supply reading as 0xFF: a format byte other than 1 is FORMAT, then a length outside 5 to 2,048 LENGTH,
then a CRC that does not match CRC; then the records are judged in order, a kind code other than the four, or a record that runs into the CRC,
being RECORD (R135, R136). A record is staged as the request of its kind is taken in STANDBY, and is out of range where that is refused RANGE (R136).
The CRC is that of polynomial 0x1021 and initial value 0xFFFF, most significant bit first; over the string 123456789 it is 0x29B1 (R135). -/
def Obligations.ImageIsReadBack : Prop :=
  let isRecord (r : Request) : Prop := 0x23#8 ≤ r.kind ∧ r.kind ≤ 0x26#8
  (∀ (rs : List Request) (beyond : List Byte),
    (∀ r ∈ rs, isRecord r) → (imageOf rs).length ≤ 2048 →
    judgeImage (imageOf rs ++ beyond) =
      match rs.foldlM Configuration.stage Configuration.start with
      | none => .error .range
      | some c => if c.crossCheck = .passed then .ok c else .error c.crossCheck) ∧
  (∀ memory : List Byte,
    let byte (i : Nat) : Byte := (memory[i]?).getD 0xFF#8
    let length := 256 * (byte 1).toNat + (byte 2).toNat
    let body := (List.range (length - 2)).map byte
    let matching : Prop := (crc16 body).toNat = 256 * (byte (length - 2)).toNat + (byte (length - 1)).toNat
    (byte 0 ≠ 1#8 → judgeImage memory = .error .format) ∧
    (byte 0 = 1#8 → (length < 5 ∨ 2048 < length) → judgeImage memory = .error .length) ∧
    (byte 0 = 1#8 → 5 ≤ length → length ≤ 2048 → ¬matching → judgeImage memory = .error .crc) ∧
    (byte 0 = 1#8 → 5 ≤ length → length ≤ 2048 → matching → ∀ (rs : List Request) (rest : List Byte),
      (∀ r ∈ rs, isRecord r) → body.drop 3 = imageRecords rs ++ rest →
      let kinds : List (Byte × Nat) := [(0x23#8, 21), (0x24#8, 19), (0x25#8, 24), (0x26#8, 26)]
      (rs.foldlM Configuration.stage Configuration.start = none → judgeImage memory = .error .range) ∧
      ∀ c, rs.foldlM Configuration.stage Configuration.start = some c →
        (rest = [] → judgeImage memory = if c.crossCheck = .passed then .ok c else .error c.crossCheck) ∧
        ∀ kind tail, rest = kind :: tail →
          ((∀ n, (kind, n) ∉ kinds) → judgeImage memory = .error .record) ∧
          ∀ n, (kind, n) ∈ kinds → tail.length < n → judgeImage memory = .error .record)) ∧
  (∀ (s : State) (p : Port) (i : Instr) (r : Request), s.mode = .standby → s.Supervises p → i.request = some (p, r) → isRecord r →
    (s.inForce.stage r = none → ∃ w : State, exec i s = .next w.settle ∧ s.Answers s w p [.nak r.kind .range] []) ∧
    ∀ c, s.inForce.stage r = some c → ∃ w : State, exec i s = .next w.settle ∧ w.inForce = c) ∧
  (∀ bytes : List Byte, crc16 bytes = (bitsOf bytes).foldl crcShift 0xFFFF#16) ∧
  crc16 ((List.range 9).map fun k => BitVec.ofNat 8 (0x31 + k)) = 0x29B1#16

/-- The cross-checks pass exactly where every condition of the table holds; otherwise their result is that of the first condition, in the order of the
table, that does not hold (R141). -/
def Obligations.CrossChecksPassExactlyWhenAllHold : Prop :=
  ∀ c : Configuration,
    let meter : Prop := ∃! i : ChannelIndex, c.channels[i].kind = .poiPower
    let cluster : Prop := ∃ p : Port, c.ports[p].role = .cluster
    let roles : Prop :=
      (Finset.univ.filter fun p : Port => c.ports[p].role = .cluster).card ≤ 10 ∧
        (Finset.univ.filter fun p : Port => c.ports[p].role = .storage).card ≤ 2 ∧
        (Finset.univ.filter fun p : Port => c.ports[p].role = .supervisor).card ≤ 2
    let rated : Prop := ∀ p : Port, c.ports[p].role = .cluster → c.ports[p].rated ≤ c.site.exportLimit
    let fallback : Prop := ∀ p : Port, c.ports[p].role = .cluster → c.ports[p].fallback ≤ c.ports[p].rated
    let total : Prop := (∑ p : Port, if c.ports[p].role = .cluster then c.ports[p].fallback else 0) ≤ c.site.exportLimit
    let leads : Prop :=
      ∀ (p : Port) (i : ChannelIndex), c.ports[p].role = .cluster → c.ports[p].lead = some i → c.channels[i].kind = .irradiance
    (c.crossCheck = .passed ↔ meter ∧ cluster ∧ roles ∧ rated ∧ fallback ∧ total ∧ leads) ∧
    (¬meter → c.crossCheck = .noMeter) ∧
    (meter → ¬cluster → c.crossCheck = .noCluster) ∧
    (meter → cluster → ¬roles → c.crossCheck = .roleCount) ∧
    (meter → cluster → roles → ¬rated → c.crossCheck = .rating) ∧
    (meter → cluster → roles → rated → ¬fallback → c.crossCheck = .fallback) ∧
    (meter → cluster → roles → rated → fallback → ¬total → c.crossCheck = .fallbackSum) ∧
    (meter → cluster → roles → rated → fallback → total → ¬leads → c.crossCheck = .lead)

/-- CONFIG_READ_COMPLETE: a good image comes into force whole and the part enters PRIMING; a bad one leaves the configuration as it was, its
first failure as the check result, and the part in STANDBY, each record ABSENT at fb/0 with its counters and its report fields as they stood (R56, R108,
R127, R134, R136, R141). A good image leaves the report fields of each record as
they stand, and with no read in progress the event does not occur (log entries 4 and 11). -/
def Obligations.ImageReadEndsInPrimingOrStandby : Prop :=
  ∀ (s : State) (memory : List Byte), s.FollowsMode →
    (s.readProgress = .idle → exec (.configReadComplete memory) s = .next s) ∧
    (s.readProgress = .reading →
      (∀ e, judgeImage memory = .error e → ∃ w : State, exec (.configReadComplete memory) s = .next w.settle ∧
        w = { s with
          mode := .standby, checkResult := e, readProgress := .idle, frameTimer := .stopped, scanTimer := .stopped
          scan := none, entries := [], links := w.links, records := w.records } ∧
        (∀ q, w.link q = w.notified [.modeChange .loading .standby] q (s.link q)) ∧
        ∀ q, w.record q =
          { s.record q with
            participation := .absent, committed := s.fbOrZero q, lastSent := none, outstanding := none, staged := none
            desired := none, cause := none, overrun := false, overrunRun := 0 }) ∧
      ∀ c, judgeImage memory = .ok c → ∃ w : State, exec (.configReadComplete memory) s = .next w.settle ∧
        w = { s with
          mode := .priming, checkResult := .passed, readProgress := .idle
          site := c.site, portTable := c.ports, defaultProfile := c.profile
          frameTimer := .running c.site.framePeriod, scanTimer := .running c.site.scanPeriod
          frameNumber := 0, primingCounter := 0, reference := 0, target := 0, storageNet := 0
          ring := [], windowBase := 1, sinceBase := 0, reseedPending := false, complianceLatched := false
          sweepStart := 0, sweepLfsr := if c.site.seed = 0 then 0x5A5A#16 else c.site.seed
          sweepOrder := sweepOrderOf c.site.sweepMode 0
          channels := w.channels, links := w.links, records := w.records } ∧
        (∀ i, w.channel i = { Channel.start with
          config := c.channels[i], state := if c.channels[i].kind = .off then ChannelState.off else .filling }) ∧
        (∀ q, w.link q = w.notified [.modeChange .loading .priming] q (s.link q)) ∧
        ∀ q, w.record q = { s.record q with committed := w.fbOrZero q, desired := none })

/-! ### Requests: what is refused, and why -/

/-- A request's frame is refused by the first check it fails: a REPORT whose length is that of the other role (LENGTH), any request but
QUERY STATUS in LOADING (STATE), a kind the port may not send (ROLE), a JOIN that claims another role (ROLE); and by its owner's mode:
JOIN, REPORT, YIELD, LEAVE and PUSH in STANDBY, SETSITE, SETPORT, SETCHAN and SETPROF in a running mode (STATE). Each refusal is one NAK on
the port the request arrived on, and nothing else (R41, R43, R56, R124, R125, R126, R137, R138, R151, R152).
An accepted frame whose kind is no request kind (UNKNOWN_KIND) is answered NAK KIND, whatever its payload and the mode (R151). -/
def Obligations.RefusedRequestsGetOneNakEach : Prop :=
  (∀ (c : Instr) (s : State) (p : Port) (r : Request), c.request = some (p, r) →
    let refusedWith (reason : NakReason) : Prop :=
      ∃ w : State, exec c s = .next w.settle ∧ s.Answers s w p [.nak r.kind reason] []
    let otherLength : Prop :=
      ((s.config p).role = .storage ∧ ∃ o a d, r = .reportCluster o a d) ∨
        ((s.config p).role = .cluster ∧ ∃ a d ch e k, r = .reportStorage a d ch e k)
    let claimed : Prop := ∀ code, r = .join code → code.toNat = (s.config p).role.code
    (otherLength → refusedWith .length) ∧
    (¬otherLength → s.mode = .loading → (¬∃ i n, r = .query 0#8 i n) → refusedWith .state) ∧
    (¬otherLength → s.mode ≠ .loading → ¬s.MayAsk p r → refusedWith .role) ∧
    (¬otherLength → s.mode ≠ .loading → s.MayAsk p r → ¬claimed → refusedWith .role) ∧
    (¬otherLength → s.mode = .standby → s.MayAsk p r → claimed →
      (Request.ofController r = true ∨ ∃ b d e, r = .push b d e) → refusedWith .state) ∧
    (s.mode.running = true → s.MayAsk p r →
      ((∃ f, r = .setSite f) ∨ (∃ f, r = .setPort f) ∨ (∃ f, r = .setChan f) ∨ ∃ b, r = .setProf b) → refusedWith .state)) ∧
  (∀ (s : State) (p : Port) (kind : Byte) (payload : List Byte), (Instr.unknownKind p kind payload).wellFormed = true →
    ∃ w : State, exec (.unknownKind p kind payload) s = .next w.settle ∧ s.Answers s w p [.nak kind .kind] [])

/-! ### Requests of cluster and storage controllers -/

/-- JOIN from a CLUSTER or STORAGE port that claims its own role, in a running mode: ACK and then KEEP at fb/0; the record is ENGAGED at
fb/0 with its report fields reset; and a budget release follows where the committed value has fallen (R76, R108, R125). -/
def Obligations.JoinEngagesThePortAtFallbackOrZero : Prop :=
  ∀ (s : State) (p : Port) (code : Byte), s.mode.running = true →
    ((s.config p).role = .cluster ∧ code = 1#8 ∨ (s.config p).role = .storage ∧ code = 2#8) →
    let fb := s.fbOrZero p
    let joined : PortRecord :=
      { participation := .engaged, committed := fb, lastSent := some fb, outstanding := none, staged := none, desired := none
        cluster := ⟨fb, fb, fb⟩, storage := ⟨0, 0, 0, 0, 0, 0, 0⟩, reportAge := 0, silence := 0, cause := none
        overrun := false, overrunRun := 0, yieldsRefused := (s.record p).yieldsRefused
        recallTimeouts := (s.record p).recallTimeouts }
    ∃ w : State, s.Answers { s with records := s.records.set p joined } w p
        [.ack 0x10#8 false false, .limit .keep fb s.frameNumber] [] ∧
      exec (.join p code) s =
        .next (if fb < (s.record p).committed then w.budgetRelease.settle else w.settle)

/-- REPORT_CLUSTER and REPORT_STORAGE from a port of that role that is not STALE by silence, in a running mode: not answered. A cluster's values
are clamped into [0, rated] and stored, the report age is 0, and a port that is not ABSENT is checked for overrun. A storage port's values are
clamped in the order of R77 (the capacity before the SoE it bounds) and stored, the report age 0 (R77, R124, R130). -/
def Obligations.ReportsAreStored : Prop :=
  (∀ (s : State) (p : Port) (output available applied : BitVec 32), s.mode.running = true → (s.config p).role = .cluster →
    0 ≤ (s.config p).rated → ¬((s.record p).participation = .stale ∧ (s.record p).cause = some .silence) →
    let r := s.record p
    let within (v : BitVec 32) : Int := min (v.toNat : Int) (s.config p).rated
    let stored : PortRecord := { r with cluster := ⟨within output, within available, within applied⟩, reportAge := 0 }
    let above : Prop := r.committed + s.site.margin < within output
    let run := if r.overrunRun < 3 then r.overrunRun + 1 else r.overrunRun
    let effect (record : PortRecord) (ns : List Notice) : Prop :=
      ∃ w : State, exec (.reportCluster p output available applied) s = .next w.settle ∧
        s.Answers { s with records := s.records.set p record } w p [] ns
    (r.participation = .absent → effect stored []) ∧
    (r.participation ≠ .absent → ¬above → effect { stored with overrunRun := 0, overrun := false } []) ∧
    (r.participation ≠ .absent → above → run = 3 → r.overrun = false →
      effect { stored with overrunRun := 3, overrun := true } [.portOverrun p (within output)]) ∧
    (r.participation ≠ .absent → above → ¬(run = 3 ∧ r.overrun = false) → effect { stored with overrunRun := run } [])) ∧
  (∀ (s : State) (p : Port) (applied discharge charge soe capacity : BitVec 32), s.mode.running = true →
    (s.config p).role = .storage → 0 ≤ (s.config p).rated → 0 ≤ (s.config p).ratedCharge →
    ¬((s.record p).participation = .stale ∧ (s.record p).cause = some .silence) →
    let c := s.config p
    let r := s.record p
    let cap : Int := min (capacity.toNat : Int) 4000000000
    let stored : StorageReport :=
      { r.storage with
        capacity := cap, soe := min (soe.toNat : Int) cap, discharge := min (discharge.toNat : Int) c.rated
        charge := min (charge.toNat : Int) c.ratedCharge, applied := max (-c.ratedCharge) (min applied.toInt c.rated) }
    ∃ w : State, exec (.reportStorage p applied discharge charge soe capacity) s = .next w.settle ∧
      s.Answers { s with records := s.records.set p { r with storage := stored, reportAge := 0 } } w p [] [])

/-- The REPORT of a port that is STALE by silence returns it: ENGAGED, or RECALLING where its recall stands below the new committed value;
that value is the one it holds in PRIMING, and otherwise the smaller of the applied and the committed value, clamped into the port's
range; it is sent LOWER at the recall or KEEP; a budget release follows where the committed value has fallen; a cluster is then checked for
overrun (R122, R124, R130). -/
def Obligations.ReportReturnsASilentPort : Prop :=
  ∀ (c : Instr) (s : State) (p : Port), s.mode.running = true →
    (s.record p).participation = .stale → (s.record p).cause = some .silence →
    let t := s.config p
    let old := s.record p
    let returnsWith (stored : PortRecord) (least applied : Int) (check : State → State) : Prop :=
      let value := if s.mode = .priming then old.committed else max least (min (min applied old.committed) t.rated)
      let stands : Prop := ∃ u, old.outstanding = some u ∧ u.value < value
      let answers (participation : Participation) (kept : Option Recall) (action : LimitAction) (sent : Int) : Prop :=
        let record : PortRecord :=
          { stored with
            committed := value, participation := participation, cause := none, outstanding := kept
            lastSent := some sent, reportAge := 0 }
        ∃ w : State, s.Answers { s with records := s.records.set p record } w p [.limit action sent s.frameNumber] [] ∧
          exec c s = .next (check (if value < old.committed then w.budgetRelease else w)).settle
      (stands → ∀ u, old.outstanding = some u → answers .recalling (some u) .lower u.value) ∧
      (¬stands → answers .engaged none .keep value)
    (∀ output available applied, c = .reportCluster p output available applied → t.role = .cluster → 0 ≤ t.rated →
      returnsWith
        { old with cluster := ⟨min (output.toNat : Int) t.rated, min (available.toNat : Int) t.rated, min (applied.toNat : Int) t.rated⟩ }
        0 (min (applied.toNat : Int) t.rated) (fun w => w.checkOverrun p)) ∧
    ∀ applied discharge charge soe capacity, c = .reportStorage p applied discharge charge soe capacity → t.role = .storage →
      0 ≤ t.rated → 0 ≤ t.ratedCharge →
      let cap : Int := min (capacity.toNat : Int) 4000000000
      let app : Int := max (-t.ratedCharge) (min applied.toInt t.rated)
      returnsWith
        { old with
          storage :=
            { old.storage with
              capacity := cap, soe := min (soe.toNat : Int) cap, discharge := min (discharge.toNat : Int) t.rated
              charge := min (charge.toNat : Int) t.ratedCharge, applied := app } }
        (-t.ratedCharge) app id

/-- YIELD in a running mode, its value clamped into the port's range. At or below the recall: ACK, the recall ends, the port is ENGAGED at the
value. Above it and not above the committed value: ACK, the recall stands, and a STALE storage port counts at no less than 0. Each is followed
by a budget release. Above the committed value: NAK MISMATCH; with no recall: NAK NO_RECALL; both advance the refused-yields counter and
change nothing else (R81, R119, R120). -/
def Obligations.YieldIsJudgedAgainstTheRecall : Prop :=
  ∀ (s : State) (p : Port) (value : BitVec 32), s.mode.running = true →
    ((s.config p).role = .cluster ∨ (s.config p).role = .storage) →
    0 ≤ (s.config p).rated → 0 ≤ (s.config p).ratedCharge →
    let r := s.record p
    let least : Int := if (s.config p).role = .storage then -(s.config p).ratedCharge else 0
    let v : Int := max least (min value.toInt (s.config p).rated)
    let accepted (record : PortRecord) : Prop :=
      ∃ w : State, exec (.yield p value) s = .next w.budgetRelease.settle ∧
        s.Answers { s with records := s.records.set p record } w p [.ack 0x12#8 false false] []
    let refused (reason : NakReason) : Prop :=
      ∃ w : State, exec (.yield p value) s = .next w.settle ∧
        s.Answers { s with records := s.records.set p { r with yieldsRefused := r.yieldsRefused + if r.yieldsRefused < 65535 then 1 else 0 } }
          w p [.nak 0x12#8 reason] []
    (∀ u, r.outstanding = some u → v ≤ u.value →
      accepted { r with committed := v, lastSent := some v, outstanding := none, participation := .engaged, cause := none }) ∧
    (∀ u, r.outstanding = some u → u.value < v → v ≤ r.committed →
      accepted { r with
        committed := if (s.config p).role = .storage ∧ r.participation = .stale then max v 0 else v
        lastSent := some v }) ∧
    (∀ u, r.outstanding = some u → u.value < v → r.committed < v → refused .mismatch) ∧
    (r.outstanding = none → refused .noRecall)

/-- LEAVE in a running mode: ACK; a port that is not ABSENT becomes ABSENT at fb/0, its recall, staged raise, last-sent and desired values,
stale cause and overrun cleared, its report fields kept, its waiting LIMIT withdrawn, a budget release following where its committed value has
fallen; from an ABSENT port it changes nothing (R126; the ACK is queued first, log entry 9). -/
def Obligations.LeaveMakesThePortAbsent : Prop :=
  ∀ (s : State) (p : Port), s.mode.running = true → ((s.config p).role = .cluster ∨ (s.config p).role = .storage) →
    let r := s.record p
    let fb := s.fbOrZero p
    (r.participation = .absent → ∃ w : State, exec (.leave p) s = .next w.settle ∧
      s.Answers s w p [.ack 0x13#8 false false] []) ∧
    (r.participation ≠ .absent → ∃ w : State,
      exec (.leave p) s = .next (if fb < r.committed then w.budgetRelease.settle else w.settle) ∧
      w = { s with links := w.links, records := w.records } ∧
      w.record p =
        { r with
          participation := .absent, committed := fb, lastSent := none, outstanding := none, staged := none, desired := none
          cause := none, overrun := false, overrunRun := 0, silence := 0 } ∧
      (∀ q, q ≠ p → w.record q = s.record q ∧ w.link q = s.link q) ∧
      let answered := s.linkAfter p (only p [.ack 0x13#8 false false]) p
      w.link p = { answered with queue := answered.queue.filter fun m => !m.isLimit })

/-! ### Requests of supervisory controllers -/

/-- SETSITE and SETPROF in STANDBY: with every field in range the site record, or the default profile with BOUND stored clear, is replaced
whole and the answer is an ACK, with LIST_CHANGE DEFAULT_SET for SETPROF; otherwise a NAK RANGE and nothing else (R41, R52, R138). -/
def Obligations.SetSiteAndSetProfReplaceTheirRecord : Prop :=
  (∀ (s : State) (p : Port) (f : SiteFields), s.mode = .standby → s.Supervises p →
    (f.InRange → ∃ w : State, exec (.setSite p f) s = .next w.settle ∧
      s.Answers
        { s with
          site :=
            { exportLimit := f.exportLimit.toNat, framePeriod := f.framePeriod.toNat, scanPeriod := f.scanPeriod.toNat
              yieldLimit := f.yieldLimit.toNat, silenceLimit := f.silenceLimit.toNat, primingFrames := f.primingFrames.toNat
              tolerance := f.tolerance.toNat, margin := f.margin.toNat
              sweepMode := if f.sweepMode = 0 then .sequential else .interleaved
              startMode := if f.startMode = 0 then .rotate else .random, seed := f.seed } }
        w p [.ack 0x23#8 false false] []) ∧
    (¬f.InRange → ∃ w : State, exec (.setSite p f) s = .next w.settle ∧ s.Answers s w p [.nak 0x23#8 .range] [])) ∧
  (∀ (s : State) (p : Port) (b : ProfileBlock), s.mode = .standby → s.Supervises p →
    (b.InRange → ∃ w : State, exec (.setProf p b) s = .next w.settle ∧
      s.Answers
        { s with
          defaultProfile :=
            { lup := b.lup.toNat, ldn := b.ldn.toNat, sup := b.sup.toNat, sdn := b.sdn.toNat, window := b.window.toNat
              blend := b.blend.toNat, anticipate := b.flags.getLsbD 0, restore := b.flags.getLsbD 1
              reseed := b.flags.getLsbD 2, bound := false, restoreRate := b.restoreRate.toNat, soeTarget := b.soeTarget.toNat } }
        w p [.ack 0x26#8 false false] [.listChange .defaultSet none s.entries.length (activePosition s.entries)]) ∧
    (¬b.InRange → ∃ w : State, exec (.setProf p b) s = .next w.settle ∧ s.Answers s w p [.nak 0x26#8 .range] []))

/-- SETPORT in STANDBY: with every field in the range of the role named, the port's entry is replaced whole, the committed value of its record
follows at once, the pending sets of ports that cease to be supervisory are emptied, and the answer is an ACK; otherwise a NAK RANGE and nothing
else (R108, R139, R140). The report fields of the record are left as they stand (log entry 11). -/
def Obligations.SetPortReplacesThePortEntry : Prop :=
  ∀ (s : State) (p : Port) (f : PortFields), s.mode = .standby → s.Supervises p →
    (f.InRange → ∃ (w : State) (target : Port), target.val = f.port.toNat ∧ exec (.setPort p f) s = .next w.settle ∧
      w = { s with portTable := w.portTable, records := w.records, links := w.links } ∧
      (w.config target).role.code = f.role.toNat ∧ (w.config target).rated = f.rated.toNat ∧
      (w.config target).fallback = f.fallback.toNat ∧ ((w.config target).lead.elim 255 Fin.val) = f.lead.toNat ∧
      (w.config target).ratedCharge = f.ratedCharge.toNat ∧ (w.config target).reserve = f.reserve.toNat ∧
      (∀ q, q ≠ target → w.config q = s.config q) ∧
      (∀ q, w.record q =
        { s.record q with
          committed := if q = target then w.fbOrZero target else (s.record q).committed
          silence := if q = p then 0 else (s.record q).silence }) ∧
      ∀ q, w.link q =
        { s.linkAfter p (only p [.ack 0x24#8 false false]) q with
          notices := if s.supervisory q = true ∧ w.supervisory q = false then []
            else (s.linkAfter p (only p [.ack 0x24#8 false false]) q).notices }) ∧
    (¬f.InRange → ∃ w : State, exec (.setPort p f) s = .next w.settle ∧ s.Answers s w p [.nak 0x24#8 .range] [])

/-- SETCHAN in STANDBY: with every field in range the channel's configuration part is replaced whole, its run part is reset, OFF for the kind
OFF and FILLING for any other, and the answer is an ACK; otherwise a NAK RANGE and nothing else. The thresholds are not checked against each
other (R56). -/
def Obligations.SetChanReplacesTheChannel : Prop :=
  ∀ (s : State) (p : Port) (f : ChannelFields), s.mode = .standby → s.Supervises p →
    (f.InRange → ∃ (w : State) (i : ChannelIndex), i.val = f.channel.toNat ∧ exec (.setChan p f) s = .next w.settle ∧
      (s.Answers { s with channels := w.channels } w p [.ack 0x25#8 false false] []) ∧
      (∀ j, j ≠ i → w.channel j = s.channel j) ∧
      let c := (w.channel i).config
      c.kind.code = f.kind.toNat ∧ c.address = f.address.toNat ∧ c.skip = f.skip.toNat ∧ c.gain = f.gain.toInt ∧
        c.offset = f.offset.toInt ∧
        c.reduction = (if f.reduction = 0 then .first else if f.reduction = 1 then .max else if f.reduction = 2 then .min else .mean) ∧
        c.groupSize = f.groupSize.toNat ∧ c.averaging = f.averaging.toNat ∧ c.missLimit = f.missLimit.toNat ∧
        c.monitor = f.flags.getLsbD 0 ∧ c.notify = f.flags.getLsbD 1 ∧ c.low = f.low.toInt ∧ c.high = f.high.toInt ∧
        c.decay = f.decay.toNat ∧
        w.channel i = ⟨c, if f.kind = 0 then .off else .filling, 0, [], [], none, 0, false, 0, 256, false, false, 0⟩) ∧
    (¬f.InRange → ∃ w : State, exec (.setChan p f) s = .next w.settle ∧ s.Answers s w p [.nak 0x25#8 .range] [])

/-- PUSH in a running mode: with fewer than four entries held, the entry is appended as newest, PENDING, each field clamped into its range, its
frames counter loaded with the delay; the ACK's CLAMPED flag says whether a field was clamped, and LIST_CHANGE PUSHED is raised. With four held, a
NAK LIST_FULL and nothing else (R43, R44, R52). -/
def Obligations.PushAppendsAClampedPendingEntry : Prop :=
  ∀ (s : State) (p : Port) (b : ProfileBlock) (delay : Byte) (expiry : BitVec 16), s.mode.running = true →
    (s.config p).role = .supervisor →
    let entry : Entry :=
      { profile :=
          { lup := min b.lup.toNat 1000000, ldn := min b.ldn.toNat 1000000, sup := max 1 (min b.sup.toNat 1000000)
            sdn := max 1 (min b.sdn.toNat 1000000), window := max 10 (min b.window.toNat 600)
            blend := max 1 (min b.blend.toNat 256), anticipate := b.flags.getLsbD 0, restore := b.flags.getLsbD 1
            reseed := b.flags.getLsbD 2, bound := b.flags.getLsbD 3, restoreRate := min b.restoreRate.toNat 1000000
            soeTarget := min b.soeTarget.toNat 100 }
        port := p, delay := delay.toNat, expiry := expiry.toNat, state := .pending, frames := delay.toNat }
    (s.entries.length < 4 → ∃ (w : State) (clamped : Bool), (clamped = false ↔ b.InRange) ∧
      exec (.push p b delay expiry) s = .next w.settle ∧
      s.Answers { s with entries := s.entries ++ [entry] } w p [.ack 0x20#8 clamped false]
        [.listChange .pushed (some p) (s.entries.length + 1) (activePosition s.entries)]) ∧
    (4 ≤ s.entries.length → ∃ w : State, exec (.push p b delay expiry) s = .next w.settle ∧
      s.Answers s w p [.nak 0x20#8 .listFull] [])

/-- DROP in STANDBY or a running mode removes the newest entry pushed from the sender, whatever its position or state: ACK and LIST_CHANGE
DROPPED; with none held from it, a NAK NOT_FOUND and nothing else (R45, R52). -/
def Obligations.DropRemovesTheSendersNewestEntry : Prop :=
  ∀ (s : State) (p : Port), s.mode ≠ .loading → s.Supervises p →
    (∀ (older newer : List Entry) (e : Entry), s.entries = older ++ e :: newer → e.port = p → (∀ x ∈ newer, x.port ≠ p) →
      ∃ w : State, exec (.drop p) s = .next w.settle ∧
        s.Answers { s with entries := older ++ newer } w p [.ack 0x21#8 false false]
          [.listChange .dropped (some p) (older ++ newer).length (activePosition (older ++ newer))]) ∧
    ((∀ e ∈ s.entries, e.port ≠ p) → ∃ w : State, exec (.drop p) s = .next w.settle ∧
      s.Answers s w p [.nak 0x21#8 .notFound] [])

/-- Each QUERY is answered with one REPLY that carries the index and the data as they stand once the frame is accepted, and changes nothing else;
an index above its target's range gets a NAK RANGE. STATUS is answered in every mode, in LOADING from any port; the others in every mode but
LOADING (R25, R37 to R39, R53, R54, R75, R90, R110, R132, R137, R145, R158, R163). -/
def Obligations.QueriesReplyWithTheStateAsItStands : Prop :=
  ∀ (s : State) (p : Port) (index : BitVec 16) (count : Byte) (heard : State), s.Answers s heard p [] [] →
    let i := index.toNat
    let replies (c : Instr) (data : ReplyData) : Prop :=
      ∃ w : State, exec c s = .next w.settle ∧ s.Answers s w p [.reply index data] []
    let refused (c : Instr) : Prop := ∃ w : State, exec c s = .next w.settle ∧ s.Answers s w p [.nak 0x22#8 .range] []
    let active := activePosition s.entries
    let counters (q : Port) : List Nat :=
      [(heard.link q).accepted, (heard.link q).rejected, (s.record q).yieldsRefused, (s.record q).recallTimeouts]
    ((s.mode = .loading ∨ s.Supervises p) → replies (.queryStatus p index count)
      (.status
        { mode := s.mode, cause := s.restartCause, check := s.checkResult, frame := s.frameNumber, reference := s.reference
          target := s.target, storageNet := s.storageNet
          net := ∑ q : Port, if (s.config q).role = .cluster ∨ (s.config q).role = .storage then (s.record q).committed else 0
          exported := ∑ q : Port,
            if (s.config q).role = .cluster then max (s.record q).committed (s.config q).fallback
            else if (s.config q).role = .storage then max (s.record q).committed 0 else 0
          activePosition := active
          activePort := if active = 0 then none else (s.entries[active - 1]?).map Entry.port
          latched := s.complianceLatched })) ∧
    (s.mode ≠ .loading → s.Supervises p →
      (∀ q : Port, i = q.val → replies (.queryPort p index count) (.port (s.config q) (heard.record q))) ∧
      (12 ≤ i → refused (.queryPort p index count)) ∧
      (i ≤ 599 → replies (.queryHistory p index count) (.history s.ring[i]? s.ring[i + 1]?)) ∧
      (600 ≤ i → refused (.queryHistory p index count)) ∧
      (∀ c : ChannelIndex, i = c.val → replies (.queryChannel p index count) (.channel (s.channel c))) ∧
      (16 ≤ i → refused (.queryChannel p index count)) ∧
      (i = 0 → replies (.queryList p index count) (.list s.entries.length active (.default s.defaultProfile))) ∧
      (1 ≤ i → i ≤ 4 → ∀ e, s.entries[i - 1]? = some e →
        replies (.queryList p index count) (.list s.entries.length active (.entry e))) ∧
      (1 ≤ i → i ≤ 4 → s.entries.length < i → replies (.queryList p index count) (.list s.entries.length active .absent)) ∧
      (5 ≤ i → refused (.queryList p index count)) ∧
      (i = 0 → replies (.queryCounters p index count)
        (.counters
          ([s.excursions, s.windowConflicts, s.complianceEpisodes, s.holdingEntries] ++
            (List.finRange 16).map fun c => (s.channel c).missing))) ∧
      (i = 1 → replies (.queryCounters p index count)
        (.counters (counters 0 ++ counters 1 ++ counters 2 ++ counters 3 ++ counters 4 ++ counters 5))) ∧
      (i = 2 → replies (.queryCounters p index count)
        (.counters (counters 6 ++ counters 7 ++ counters 8 ++ counters 9 ++ counters 10 ++ counters 11))) ∧
      (3 ≤ i → refused (.queryCounters p index count)))

/-- CLEAR in every mode but LOADING. COUNTERS sets every counter of the part to 0, the sender's own frames-accepted counter among them; ALARMS
clears both alarms of the channel named, or of all for 255, and a channel from 16 to 254 is refused RANGE; NOTICES empties the sender's pending set.
Each is answered with an ACK once its effect is made, and changes nothing else (R71, R148, R161, R163). -/
def Obligations.ClearsActOnWhatTheyName : Prop :=
  ∀ (s : State) (p : Port) (channel : Byte), s.mode ≠ .loading → s.Supervises p →
    (∃ w : State, exec (.clearCounters p channel) s = .next w.settle ∧
      w = { s with
        excursions := 0, windowConflicts := 0, complianceEpisodes := 0, holdingEntries := 0
        channels := w.channels, records := w.records, links := w.links } ∧
      (∀ c, w.channel c = { s.channel c with missing := 0 }) ∧
      (∀ q, w.record q =
        { s.record q with
          yieldsRefused := 0, recallTimeouts := 0, silence := if q = p then 0 else (s.record q).silence }) ∧
      ∀ q, w.link q = { s.linkAfter p (only p [.ack 0x28#8 false false]) q with accepted := 0, rejected := 0 }) ∧
    ((channel.toNat ≤ 15 ∨ channel = 255#8) → ∃ w : State, exec (.clearAlarms p channel) s = .next w.settle ∧
      s.Answers { s with channels := w.channels } w p [.ack 0x28#8 false false] [] ∧
      ∀ c : ChannelIndex, w.channel c =
        if channel = 255#8 ∨ channel.toNat = c.val then { s.channel c with lowAlarm := false, highAlarm := false }
        else s.channel c) ∧
    (16 ≤ channel.toNat → channel ≠ 255#8 → ∃ w : State, exec (.clearAlarms p channel) s = .next w.settle ∧
      s.Answers s w p [.nak 0x28#8 .range] []) ∧
    ∃ w : State, exec (.clearNotices p channel) s = .next w.settle ∧
      w = { s with records := w.records, links := w.links } ∧
      (∀ q, w.record q = { s.record q with silence := if q = p then 0 else (s.record q).silence }) ∧
      ∀ q, w.link q =
        if q = p then { s.linkAfter p (only p [.ack 0x28#8 false false]) p with notices := [] } else s.link q

/-- MODE_RUN outside LOADING: in STANDBY the cross-checks decide: where they pass, ACK and PRIMING entry with all its effects; where one fails, it
becomes the check result and the answer is NAK CONFIG; in a running mode an ACK and nothing else. At PRIMING entry open access ends before
MODE_CHANGE is raised (R1, R2, R26, R57, R66, R91, R134, R140, R141, R142). -/
def Obligations.ModeRunEntersPrimingWhereTheChecksPass : Prop :=
  ∀ (s : State) (p : Port), s.Supervises p →
    (s.mode.running = true → ∃ w : State, exec (.modeRun p) s = .next w.settle ∧
      s.Answers s w p [.ack 0x27#8 false false] []) ∧
    (s.mode = .standby → s.inForce.crossCheck ≠ .passed → ∃ w : State, exec (.modeRun p) s = .next w.settle ∧
      s.Answers { s with checkResult := s.inForce.crossCheck } w p [.nak 0x27#8 .config] []) ∧
    (s.mode = .standby → s.inForce.crossCheck = .passed → ∃ w : State, exec (.modeRun p) s = .next w.settle ∧
      w = { s with
        mode := .priming, checkResult := .passed
        frameTimer := .running s.site.framePeriod, scanTimer := .running s.site.scanPeriod
        frameNumber := 0, primingCounter := 0, reference := 0, target := 0, storageNet := 0
        ring := [], windowBase := 1, sinceBase := 0, reseedPending := false, complianceLatched := false
        sweepStart := 0, sweepLfsr := if s.site.seed = 0 then 0x5A5A#16 else s.site.seed
        sweepOrder := sweepOrderOf s.site.sweepMode 0
        channels := w.channels, links := w.links, records := w.records } ∧
      (∀ c, w.channel c =
        if (s.channel c).state = .off then s.channel c
        else
          { s.channel c with
            state := .filling, skipCounter := 0, group := [], buffer := [], value := none, missingRun := 0, lossMark := false
            track := 0, ratio := 256 }) ∧
      (∀ q, w.record q =
        { s.record q with desired := none, silence := if q = p then 0 else (s.record q).silence }) ∧
      ∀ q, w.link q =
        let answered := s.linkAfter p (only p [.ack 0x27#8 false false]) q
        if (s.config q).role = .supervisor then answered.raise (.modeChange .standby .priming)
        else if s.openAccess = true then { answered with notices := [] } else answered)

/-- MODE_STANDBY outside LOADING: in a running mode ACK and STANDBY entry: both timers stopped, the scan ended, every pushed entry discarded, RELEASE
at fb/0 to each port that is not ABSENT, every record ABSENT at fb/0, LIST_CHANGE DISCARDED where entries were held, then MODE_CHANGE; the ring, the
channels, the governor's values and the counters are kept. In STANDBY an ACK and nothing else (R1, R2, R51, R57, R59, R91, R127, R129, R142). -/
def Obligations.ModeStandbyReleasesEveryPort : Prop :=
  ∀ (s : State) (p : Port), s.Supervises p →
    (s.mode = .standby → ∃ w : State, exec (.modeStandby p) s = .next w.settle ∧
      s.Answers s w p [.ack 0x27#8 false false] []) ∧
    (s.mode.running = true → ∃ w : State, exec (.modeStandby p) s = .next w.settle ∧
      w = { s with
        mode := .standby, frameTimer := .stopped, scanTimer := .stopped, scan := none, entries := []
        links := w.links, records := w.records } ∧
      (∀ q, w.record q =
        { s.record q with
          participation := .absent, committed := s.fbOrZero q, lastSent := none, outstanding := none, staged := none
          desired := none, cause := none, overrun := false, overrunRun := 0
          silence := if q = p then 0 else (s.record q).silence }) ∧
      ∀ q, w.link q =
        s.notified
          ((if s.entries = [] then [] else [.listChange .discarded none 0 0]) ++ [.modeChange s.mode .standby]) q
          (s.linkAfter p
            (fun q => only p [.ack 0x27#8 false false] q ++
              if (s.record q).participation = .absent then [] else [.limit .release (s.fbOrZero q) s.frameNumber]) q))

/-! ### Frame expiries -/

/-- Before its frame, an expiry advances the frame number in GOVERNING and HOLDING and brings each record's counts up to date: a recall that has
stood for the yield limit times out, and a silence count that reaches its limit takes the port into STALE by silence, whatever else it
was (R3, R81, R113, R114, R121). One PORT_STALE is noticed at every UP supervisory link for each entry into STALE, a timeout before the silence of the same
port, and no link changes otherwise (R131, R159). A count above its limit stays, the order of the ports is open, and a timeout may be raised after the
silence of another port (log entries 3, 16 and 21). -/
def Obligations.ExpiryAgesEveryRecord : Prop :=
  ∀ s : State, s.mode.running = true →
    let v := s.numberFrame.ageRecords
    let frame := if s.mode = .priming then s.frameNumber else s.frameNumber + 1
    let silence (p : Port) : Nat :=
      let r := s.record p
      if r.participation ≠ .absent ∧ r.silence < s.site.silenceLimit then r.silence + 1 else r.silence
    let timesOut (p : Port) : Prop :=
      s.mode ≠ .priming ∧ (s.record p).participation = .recalling ∧
        ∃ u, (s.record p).outstanding = some u ∧ s.site.yieldLimit ≤ (frame - u.firstSend).toNat
    let fallsSilent (p : Port) : Prop :=
      (s.record p).participation ≠ .absent ∧ ¬((s.record p).participation = .stale ∧ (s.record p).cause = some .silence) ∧
        s.site.silenceLimit ≤ silence p
    let counted (p : Port) : PortRecord :=
      { s.record p with
        silence := silence p
        reportAge := (s.record p).reportAge +
          if ((s.config p).role = .cluster ∨ (s.config p).role = .storage) ∧ (s.record p).reportAge < 65535 then 1 else 0 }
    let storageRaised (p : Port) : Int :=
      if (s.config p).role = .storage then max (s.record p).committed 0 else (s.record p).committed
    let timeouts (p : Port) : Nat := (s.record p).recallTimeouts + if (s.record p).recallTimeouts < 65535 then 1 else 0
    v = { s with frameNumber := frame, records := v.records, links := v.links, openChoices := v.openChoices } ∧
    (∀ p, ¬timesOut p → ¬fallsSilent p → v.record p = counted p ∧ s.portStaleEntries p = []) ∧
    (∀ p, timesOut p → ¬fallsSilent p → s.portStaleEntries p = [.portStale p .yieldTimeout (storageRaised p)] ∧ v.record p =
      { counted p with
        participation := .stale, cause := some .yieldTimeout, committed := storageRaised p, recallTimeouts := timeouts p }) ∧
    (∀ p, ¬timesOut p → fallsSilent p →
      s.portStaleEntries p = [.portStale p .silence (max (s.record p).committed (s.fbOrZero p))] ∧ v.record p =
      { counted p with
        participation := .stale, cause := some .silence, staged := none
        committed := max (s.record p).committed (s.fbOrZero p) }) ∧
    (∀ p, timesOut p → fallsSilent p →
      s.portStaleEntries p =
        [.portStale p .yieldTimeout (storageRaised p), .portStale p .silence (max (s.record p).committed (s.fbOrZero p))] ∧ v.record p =
      { counted p with
        participation := .stale, cause := some .silence, staged := none, recallTimeouts := timeouts p
        committed := max (s.record p).committed (s.fbOrZero p) }) ∧
    ∃ ns, s.StaleNotices ns ∧ ∀ q, v.link q = s.notified ns q (s.link q)

/-- An expiry brings every pushed entry up to date: a PENDING one counts its delay down and then becomes ACTIVE with its expiry loaded and its
RESEED flag cleared; an ACTIVE one with an expiry counts down and leaves at 0. A reseed restarts the window, and each activation and removal is
noticed, oldest entry first, with the list as it stands afterwards (R29, R31, R46 to R49, R52).
A pushed entry with delay d and expiry e activates at the (d + 1)th expiry after its PUSH, is ACTIVE for e expiries, or without end where e is 0,
and has left the list at the expiry after those (R46, R48).
The active profile is that of the newest ACTIVE entry, at its position from the oldest; with none ACTIVE it is the default profile, at position 0 (R42, R52). -/
def Obligations.ExpiryBringsTheListUpToDate : Prop :=
  (∀ s : State, s.mode.running = true →
    let v := s.updateList
    let listed (e : Entry) : Option Entry :=
      if e.state = .pending then
        if e.frames = 0 then some { e with state := .active, frames := e.expiry, profile := { e.profile with reseed := false } }
        else some { e with frames := e.frames - 1 }
      else if e.expiry = 0 then some e
      else if e.frames ≤ 1 then none
      else some { e with frames := e.frames - 1 }
    let change (e : Entry) : Option ListCause :=
      if e.state = .pending then if e.frames = 0 then some .activated else none
      else if e.expiry ≠ 0 ∧ e.frames ≤ 1 then some .expired else none
    let reseeds : Prop := ∃ e ∈ s.entries, e.state = .pending ∧ e.frames = 0 ∧ e.profile.reseed = true
    v.entries = s.entries.filterMap listed ∧
    (reseeds → v.sinceBase = 0 ∧ v.reseedPending = true ∧ v.windowBase = if s.mode = .priming then 1 else s.frameNumber) ∧
    (¬reseeds → v.sinceBase = s.sinceBase ∧ v.reseedPending = s.reseedPending ∧ v.windowBase = s.windowBase) ∧
    (∀ q, v.link q = s.notified
      (s.entries.filterMap fun e => (change e).map fun cause =>
        .listChange cause (some e.port) v.entries.length (activePosition v.entries)) q (s.link q)) ∧
    v = { s with
      entries := v.entries, sinceBase := v.sinceBase, reseedPending := v.reseedPending, windowBase := v.windowBase
      links := v.links }) ∧
  (∀ (e : Entry) (k : Nat), e.state = .pending →
    let after := tickedEntries^[k] [e]
    (k ≤ e.frames → after = [{ e with frames := e.frames - k }]) ∧
    (e.frames < k → (e.expiry = 0 ∨ k ≤ e.frames + e.expiry) →
      after = [{ e with
        state := .active, profile := { e.profile with reseed := false }
        frames := if e.expiry = 0 then 0 else e.frames + 1 + e.expiry - k }]) ∧
    (e.expiry ≠ 0 → e.frames + e.expiry < k → after = [])) ∧
  ∀ s : State,
    (∀ older e newer, s.entries = older ++ e :: newer → e.state = .active → (∀ x ∈ newer, x.state ≠ .active) →
      s.activeProfile = e.profile ∧ activePosition s.entries = older.length + 1) ∧
    ((∀ x ∈ s.entries, x.state ≠ .active) → s.activeProfile = s.defaultProfile ∧ activePosition s.entries = 0)

/-- FRAME_EXPIRY in PRIMING, its records aged and its list brought up to date: the priming counter advances to its limit; where it equals the limit
and the meter is VALID, R is the meter's value within [0, E], the window base is 1 and the mode GOVERNING; either way each ENGAGED port is sent
KEEP at its committed value with frame number 0 and nothing is computed or recorded; the seeding expiry notices MODE_CHANGE at every UP supervisory
port (R5, R6, R118, R134). With the frame timer stopped the event does not occur (R2, log entry 4).
The meter's value is, where exactly one channel has kind POI_POWER, that channel's current value while it is VALID, and there is none while it is not,
or where no channel has that kind (R5, R6, R21). -/
def Obligations.PrimingFrameKeepsAndMaySeed : Prop :=
  (∀ s : State,
    (∀ i : ChannelIndex, (s.channel i).config.kind = .poiPower → (∀ j, (s.channel j).config.kind = .poiPower → j = i) →
      s.meter = some (s.channel i) ∧ s.measuredPower = if (s.channel i).state = .valid then (s.channel i).value else none) ∧
    ((∀ i, (s.channel i).config.kind ≠ .poiPower) → s.meter = none ∧ s.measuredPower = none)) ∧
  ∀ s : State, (s.frameTimer = .stopped → exec .frameExpiry s = .next s) ∧
    (s.mode = .priming → s.frameTimer ≠ .stopped → s.SweepInOrder → ∃ w : State, exec .frameExpiry s = .next w.settle ∧
      let v := s.prepareFrame
      let count := if s.primingCounter < s.site.primingFrames then s.primingCounter + 1 else s.primingCounter
      w.primingCounter = count ∧
      (∀ power, count = s.site.primingFrames → s.measuredPower = some power →
        w.mode = .governing ∧ w.reference = clamp 0 s.site.exportLimit power ∧ w.windowBase = 1 ∧ w.sinceBase = 0) ∧
      (count ≠ s.site.primingFrames ∨ s.measuredPower = none →
        w.mode = .priming ∧ w.reference = s.reference ∧ w.windowBase = v.windowBase ∧ w.sinceBase = v.sinceBase) ∧
      w = { v with
        primingCounter := w.primingCounter, mode := w.mode, reference := w.reference, windowBase := w.windowBase
        sinceBase := w.sinceBase, records := w.records, links := w.links } ∧
      ∀ p, let engaged : Prop := (v.record p).participation = .engaged
        w.record p = { v.record p with
          lastSent := if engaged then some (v.record p).committed else (v.record p).lastSent } ∧
        ((w.link p).queue =
          if engaged ∧ (v.link p).up = true then
            intoQueue (v.link p).queue (.limit .keep (v.record p).committed v.frameNumber)
          else (v.link p).queue) ∧
        let noticed := v.notified (if w.mode = .priming then [] else [.modeChange .priming .governing]) p (v.link p)
        w.link p = { noticed with queue := (w.link p).queue })

/-- PRIMING_END: the expiry at which the priming frames have elapsed with the meter VALID seeds R from the meter within [0, E], sets the window
base to 1, moves the mode to GOVERNING, notices the change at every UP supervisory port, writes no record, and leaves the frame number, T and S_act
(R5, R6, R118, R134). The command is that expiry, taken whole, with its records, its list and its KEEPs as FRAME_EXPIRY has them; at any other moment it
does not occur (log entry 6). -/
def Obligations.PrimingEndSeedsTheReference : Prop :=
  ∀ s : State,
    (∀ power, s.mode = .priming → s.frameTimer ≠ .stopped → 0 ≤ s.site.exportLimit →
      s.site.primingFrames = (if s.primingCounter < s.site.primingFrames then s.primingCounter + 1 else s.primingCounter) →
      s.measuredPower = some power →
      exec .primingEnd s = exec .frameExpiry s ∧
      ∃ w : State, exec .primingEnd s = .next w.settle ∧ w.mode = .governing ∧
        w.reference = max 0 (min power s.site.exportLimit) ∧ w.windowBase = 1 ∧ w.sinceBase = 0 ∧ w.ring = s.ring ∧
        w.frameNumber = s.frameNumber ∧ w.target = s.target ∧ w.storageNet = s.storageNet ∧
        ∀ q, (s.config q).role = .supervisor → (s.link q).up = true →
          ∃ e ∈ (w.link q).notices, e.notice = .modeChange .priming .governing) ∧
    ((s.mode ≠ .priming ∨ s.frameTimer = .stopped ∨ s.measuredPower = none ∨
        s.site.primingFrames ≠ (if s.primingCounter < s.site.primingFrames then s.primingCounter + 1 else s.primingCounter)) →
      exec .primingEnd s = .next s)

/-- PROFILE_ACTIVATION and PROFILE_EXPIRY: at an expiry at which the entry at the position activates, it is ACTIVE with its expiry loaded and
its RESEED flag clear, and a reseed it carried has restarted the window; at one at which it runs out, it is gone; each is noticed at every UP
supervisory port (R31, R46 to R49, R52). The command is that expiry, taken whole, with its records and its frame as FRAME_EXPIRY has them; at any other
moment, and at a position that holds no entry, it does not occur (log entry 6). -/
def Obligations.EntriesActivateAndExpireAtTheirExpiry : Prop :=
  (∀ (s : State) (position : Nat), position = 0 ∨ s.entries.length < position →
    exec (.profileActivation position) s = .next s ∧ exec (.profileExpiry position) s = .next s) ∧
  ∀ (s : State) (position : Nat) (e : Entry), 1 ≤ position → s.entries[position - 1]? = some e →
    let noticed (w : State) : Prop :=
      ∀ q, (s.config q).role = .supervisor → (s.link q).up = true →
        ∃ n ∈ (w.link q).notices, ∃ cause port held active, n.notice = .listChange cause port held active
    let runs : Prop := s.mode.running = true ∧ s.frameTimer ≠ .stopped
    let activates : Prop := e.state = .pending ∧ e.frames = 0
    let expires : Prop := e.state = .active ∧ e.expiry ≠ 0 ∧ e.frames ≤ 1
    (runs → activates → exec (.profileActivation position) s = exec .frameExpiry s) ∧
    (runs → expires → exec (.profileExpiry position) s = exec .frameExpiry s) ∧
    (runs → activates → ∃ w : State, exec (.profileActivation position) s = .next w.settle ∧
      w.entries = tickedEntries s.entries ∧ noticed w ∧
      { e with state := .active, frames := e.expiry, profile := { e.profile with reseed := false } } ∈ w.entries ∧
      (e.profile.reseed = true → w.windowBase = if s.mode = .priming then 1 else s.frameNumber + 1)) ∧
    (runs → expires → ∃ w : State, exec (.profileExpiry position) s = .next w.settle ∧
      w.entries = tickedEntries (s.entries.take (position - 1)) ++ tickedEntries (s.entries.drop position) ∧ noticed w) ∧
    (¬(runs ∧ activates) → exec (.profileActivation position) s = .next s) ∧
    (¬(runs ∧ expires) → exec (.profileExpiry position) s = .next s)

/-- YIELD_TIMEOUT and SILENCE_TIMEOUT: at an expiry at which a port's recall has stood for the yield limit, or its silence count reaches its limit, the
port is STALE with that cause (SILENCE where both come about), its recall kept, its committed value raised as R81 and R121 give, and PORT_STALE is
noticed at every UP supervisory port, once for each entry of a port into STALE at that expiry and nothing else of that kind (R113, R114, R121, R131, R159). The
command is that expiry, taken whole; at any other moment it does not occur (log entry 6; log entries 3, 16 and 21 as in ExpiryAgesEveryRecord). -/
def Obligations.TimeoutsMakeThePortStale : Prop :=
  ∀ (s : State) (p : Port),
    let r := s.record p
    let count := if r.participation ≠ .absent ∧ r.silence < s.site.silenceLimit then r.silence + 1 else r.silence
    let runs : Prop := s.mode.running = true ∧ s.frameTimer ≠ .stopped
    let silent : Prop :=
      r.participation ≠ .absent ∧ ¬(r.participation = .stale ∧ r.cause = some .silence) ∧ s.site.silenceLimit ≤ count
    let timedOut : Prop :=
      s.mode ≠ .priming ∧ r.participation = .recalling ∧
        ∃ u, r.outstanding = some u ∧ s.site.yieldLimit ≤ (s.frameNumber + 1 - u.firstSend).toNat
    let ofKind (l : LinkPort) : List PendingNotice := l.notices.filter fun e => e.notice.code = 4
    let noticed (w : State) : Prop :=
      (∃ ns, s.StaleNotices ns ∧ ∀ q, ofKind (w.link q) = ofKind (s.notified ns q (s.link q))) ∧
      ∀ q, (s.config q).role = .supervisor → (s.link q).up = true →
        ∃ n ∈ (w.link q).notices, ∃ port cause committed, n.notice = .portStale port cause committed
    (runs → timedOut → exec (.yieldTimeout p) s = exec .frameExpiry s) ∧ (runs → silent → exec (.silenceTimeout p) s = exec .frameExpiry s) ∧
    (runs → timedOut → ∃ w : State, exec (.yieldTimeout p) s = .next w.settle ∧ noticed w ∧
      (w.record p).participation = .stale ∧ (w.record p).outstanding = r.outstanding ∧
      (w.record p).recallTimeouts = r.recallTimeouts + (if r.recallTimeouts < 65535 then 1 else 0) ∧
      (silent → (w.record p).cause = some .silence ∧ (w.record p).committed = max r.committed (s.fbOrZero p)) ∧
      (¬silent → (w.record p).cause = some .yieldTimeout ∧
        (w.record p).committed = if (s.config p).role = .storage then max r.committed 0 else r.committed)) ∧
    (runs → silent → ∃ w : State, exec (.silenceTimeout p) s = .next w.settle ∧ noticed w ∧
      (w.record p).participation = .stale ∧ (w.record p).outstanding = r.outstanding ∧ (w.record p).staged = none ∧
      (w.record p).cause = some .silence ∧ (w.record p).silence = count ∧
      (w.record p).committed = max r.committed (s.fbOrZero p)) ∧
    (¬(runs ∧ timedOut) → exec (.yieldTimeout p) s = .next s) ∧
    (¬(runs ∧ silent) → exec (.silenceTimeout p) s = .next s)

/-- FRAME_EXPIRY in GOVERNING, its records aged and its list brought up to date: the sweep advances, the availabilities are formed, T is what the
clusters could deliver within E, R′ is what the stages give, S fills the gap or restores, S_act is the engaged share of S and the STALE storage, the
record is appended with its marks and its compliance check, each active port has the desired value its division gives it, a STALE or ABSENT storage port
keeps its availabilities, and a port that is neither cluster nor storage its desired value; the notices of a conflict and
an excursion are raised before that append, and the frame's LIMITs are emitted last, from those desired values. The window is that of the newest
min(W, since-base count) references, or R where there is none
(R8 to R10, R15, R17 to R21, R24, R35, R78 to R84, R87, R92, R98, R99, R105, R107, R28, R30). -/
def Obligations.GoverningFrameComputes : Prop :=
  ∀ s : State, s.mode = .governing → s.frameTimer ≠ .stopped → ∃ w : State, exec .frameExpiry s = .next w.settle ∧
    let v := s.prepareFrame
    let profile := v.activeProfile
    let E := s.site.exportLimit
    let active (p : Port) : Prop := (v.record p).participation = .engaged ∨ (v.record p).participation = .recalling
    let cluster (p : Port) : Prop := (s.config p).role = .cluster
    let storage (p : Port) : Prop := (s.config p).role = .storage
    let ratio (p : Port) : Int :=
      if profile.anticipate = true then
        match (s.config p).lead with
        | some c => if (s.channel c).state = .valid then (s.channel c).ratio else 256
        | none => 256
      else 256
    let forecast (p : Port) : Int := (v.record p).cluster.available * ratio p / 256
    let unsteered (p : Port) : Int :=
      if cluster p ∧ (v.record p).participation = .stale then (v.record p).cluster.output
      else if cluster p ∧ (v.record p).participation = .absent then (s.config p).fallback else 0
    let T := min E (∑ p : Port, ((if cluster p ∧ active p then forecast p else 0) + unsteered p))
    let held (p : Port) : StorageReport := (v.record p).storage
    let d (p : Port) : Int := if (held p).soe ≤ (s.config p).reserve then 0 else min (held p).discharge (s.config p).rated
    let e (p : Port) : Int := if (held p).capacity ≤ (held p).soe then 0 else min (held p).charge (s.config p).ratedCharge
    let sumOver (f : Port → Int) : Int := ∑ p : Port, if storage p ∧ active p then f p else 0
    let fixed : Int := ∑ p : Port, if storage p ∧ (v.record p).participation = .stale then (v.record p).committed else 0
    let window : List Int := (v.ring.take (min profile.window v.sinceBase)).map FrameRecord.reference
    let st := stages profile E s.reference T (sumOver d + fixed) (window.min?.getD s.reference) (window.max?.getD s.reference)
    let S : Int :=
      if T < st.reference then st.reference - T
      else if profile.restore = true ∧
          sumOver (fun p => (held p).soe) < sumOver (fun p => (held p).capacity) * profile.soeTarget / 100 then
        -(min profile.restoreRate (min (sumOver e) (T - st.reference)))
      else 0
    let engaged := if S - fixed < -(sumOver e) then -(sumOver e) else if sumOver d < S - fixed then sumOver d else S - fixed
    w.mode = .governing ∧ w.frameNumber = s.frameNumber + 1 ∧ w.reference = st.reference ∧ w.target = T ∧
    w.storageNet = engaged + fixed ∧
    w.windowConflicts = s.windowConflicts + (if st.conflict ≠ none ∧ s.windowConflicts < 65535 then 1 else 0) ∧
    w.excursions = s.excursions + (if st.shortfall ≠ none ∧ s.excursions < 65535 then 1 else 0) ∧
    (∃ record : FrameRecord, w.ring = (record :: v.ring).take 600 ∧ record.number = s.frameNumber + 1 ∧
      record.reference = st.reference ∧ record.target = T ∧ record.measured = s.measuredPower ∧
      record.storageNet = engaged + fixed ∧ record.marks.hold = false ∧ record.marks.windowConflict = st.conflict.isSome ∧
      record.marks.excursion = st.shortfall.isSome ∧ record.marks.reseed = v.reseedPending) ∧
    w.sweepLfsr = (if s.site.startMode = .random then lfsrStep s.sweepLfsr else s.sweepLfsr) ∧
    w.sweepStart.val =
      (if s.site.startMode = .random then (lfsrStep s.sweepLfsr).toNat % 12 else (s.sweepStart.val + 1) % 12) ∧
    w.sweepOrder = sweepOrderOf s.site.sweepMode w.sweepStart ∧
    (∀ p, storage p → active p → (w.record p).storage = { held p with dischargeAvailability := d p, chargeAvailability := e p }) ∧
    (∀ p, ¬(storage p ∧ active p) → (w.record p).storage = held p) ∧
    (∀ p, ¬cluster p → ¬storage p → (w.record p).desired = (v.record p).desired) ∧
    (∀ p, storage p → (w.record p).desired = lookupPort p
      (let members (f : Port → Int) : List (Port × Int) :=
        (w.sweepOrder.filter fun q => decide (storage q ∧ active q)).map fun q => (q, f q)
      if 0 < engaged then (divideAmong engaged (members d)).map fun x => (x.port, x.given)
      else if engaged < 0 then (divideAmong (-engaged) (members e)).map fun x => (x.port, -x.given)
      else members fun _ => 0)) ∧
    (∀ p, cluster p → (w.record p).desired = lookupPort p
      (divideBudget (max 0 (st.reference - (engaged + fixed) - ∑ q : Port, unsteered q))
        ((w.sweepOrder.filter fun q => decide (cluster q ∧ active q)).map fun q =>
          { port := q, forecast := forecast q, rated := (s.config q).rated }))) ∧
    (∀ p, (w.record p).cluster = (v.record p).cluster ∧ (w.record p).reportAge = (v.record p).reportAge ∧
      (w.record p).silence = (v.record p).silence ∧ (w.record p).overrun = (s.record p).overrun ∧
      (w.record p).yieldsRefused = (s.record p).yieldsRefused) ∧
    (∃ reported e : State, reported = { v with links := reported.links } ∧
      (∀ q, reported.link q = v.notified ((st.conflict.map .windowConflict).toList ++ (st.shortfall.map .excursion).toList) q (v.link q)) ∧
      (let a := reported.appendRecord profile
        ⟨s.frameNumber + 1, st.reference, T, s.measuredPower, engaged + fixed, ⟨st.shortfall.isSome, st.conflict.isSome, false, false, false⟩⟩
      w.ring = a.ring ∧ w.sinceBase = a.sinceBase ∧ w.reseedPending = a.reseedPending ∧ w.complianceLatched = a.complianceLatched ∧
        w.complianceEpisodes = a.complianceEpisodes ∧ ∀ q, e.link q = a.link q) ∧
      w = e.emitFrame ∧ e = { w with records := e.records, links := e.links } ∧
      (∀ p, e.record p = { v.record p with storage := (w.record p).storage, desired := (w.record p).desired }) ∧
      ∃ compliance : List Notice, (compliance = [] ∨ ∃ excess, compliance = [.compliance excess]) ∧
        (compliance ≠ [] ↔ w.complianceLatched = true ∧ s.complianceLatched = false) ∧
        ∀ q, e.link q = v.notified
          ((st.conflict.map .windowConflict).toList ++ (st.shortfall.map .excursion).toList ++ compliance) q (v.link q)) ∧
    w = { v with
      frameNumber := w.frameNumber, reference := w.reference, target := w.target, storageNet := w.storageNet
      windowConflicts := w.windowConflicts, excursions := w.excursions, ring := w.ring, sinceBase := w.sinceBase
      reseedPending := w.reseedPending, complianceLatched := w.complianceLatched
      complianceEpisodes := w.complianceEpisodes, sweepStart := w.sweepStart, sweepLfsr := w.sweepLfsr
      sweepOrder := w.sweepOrder, records := w.records, links := w.links }

/-- FRAME_EXPIRY in HOLDING, its records aged and its list brought up to date: T is computed, R and S_act are held, the record is appended with the HOLD
mark and its compliance check, no division is made, and each port that is not ABSENT is sent LOWER at its recall's value or KEEP at its committed
value (R8 to R10, R22, R28, R118). -/
def Obligations.HeldFrameKeepsTheReference : Prop :=
  ∀ s : State, s.mode = .holding → s.frameTimer ≠ .stopped → s.SweepInOrder →
    ∃ w : State, exec .frameExpiry s = .next w.settle ∧
      let v := s.prepareFrame
      w.mode = .holding ∧ w.frameNumber = s.frameNumber + 1 ∧ w.reference = s.reference ∧ w.storageNet = s.storageNet ∧
      w.target = v.targetPower v.activeProfile ∧
      (let cluster (p : Port) : Prop := (s.config p).role = .cluster
      let ratio (p : Port) : Int :=
        if v.activeProfile.anticipate = true then
          match (s.config p).lead with
          | some c => if (s.channel c).state = .valid then (s.channel c).ratio else 256
          | none => 256
        else 256
      let figure (p : Port) : Int :=
        match (v.record p).participation with
        | .engaged | .recalling => (v.record p).cluster.available * ratio p / 256
        | .stale => (v.record p).cluster.output
        | .absent => (s.config p).fallback
      w.target = min s.site.exportLimit (∑ p : Port, if cluster p then figure p else 0)) ∧
      w.excursions = s.excursions ∧ w.windowConflicts = s.windowConflicts ∧
      (∃ record : FrameRecord, w.ring = (record :: v.ring).take 600 ∧ record.number = s.frameNumber + 1 ∧
        record.reference = s.reference ∧ record.target = w.target ∧ record.storageNet = s.storageNet ∧
        record.measured = s.measuredPower ∧ record.marks.hold = true ∧ record.marks.reseed = v.reseedPending ∧
        record.marks.excursion = false ∧ record.marks.windowConflict = false) ∧
      let a := { v with target := w.target }.appendRecord v.activeProfile
        ⟨s.frameNumber + 1, s.reference, w.target, s.measuredPower, s.storageNet, ⟨false, false, true, false, false⟩⟩
      w.ring = a.ring ∧ w.sinceBase = a.sinceBase ∧ w.reseedPending = a.reseedPending ∧ w.complianceLatched = a.complianceLatched ∧
      w.complianceEpisodes = a.complianceEpisodes ∧
      (∀ p, let r := v.record p
        let limit : Option (LimitAction × Int) :=
          if r.participation = .absent then none
          else some (match r.outstanding with
            | some u => (.lower, u.value)
            | none => (.keep, r.committed))
        w.record p = { r with lastSent := if r.participation = .absent then r.lastSent else limit.map Prod.snd } ∧
        w.link p = (match limit with
          | some (action, value) => (a.link p).enqueue (.limit action value (s.frameNumber + 1))
          | none => a.link p) ∧
        (w.link p).queue =
          match limit with
          | some (action, value) =>
            if (v.link p).up = true then intoQueue (v.link p).queue (.limit action value (s.frameNumber + 1)) else (v.link p).queue
          | none => (v.link p).queue) ∧
      w = { v with
        target := w.target, ring := w.ring, sinceBase := w.sinceBase, reseedPending := w.reseedPending
        complianceLatched := w.complianceLatched, complianceEpisodes := w.complianceEpisodes
        records := w.records, links := w.links }

/-! ### The frame's arithmetic -/

/-- The blend stage: Rd = R + trunc(b × (T − R) / 256), truncated toward zero; with b = 256 it is T, it rests where |b × (T − R)| is below 256, and
it lies between R and T (R13). -/
def Obligations.BlendMovesTowardTheTarget : Prop :=
  ∀ b R T E : Int, 1 ≤ b → b ≤ 256 →
    (T < R → blend b R T = R - b * (R - T) / 256) ∧ (R ≤ T → blend b R T = R + b * (T - R) / 256) ∧
    (b = 256 → blend b R T = T) ∧ (|b * (T - R)| < 256 → blend b R T = R) ∧ (b = 64 → |T - R| ≤ 3 → blend b R T = R) ∧
    min R T ≤ blend b R T ∧ blend b R T ≤ max R T ∧
    (0 ≤ R → R ≤ E → 0 ≤ T → T ≤ E → 0 ≤ blend b R T ∧ blend b R T ≤ E)

/-- The stages of the reference: R′ is the blended value within the bounds, or R in a window conflict, and never above T + Dmax; it lies in
[0, E]; a conflict gives lo − hi and an excursion lo − R′; and a frame with neither has R′ within the bounds formed (R14 to R17). -/
def Obligations.StagesBoundTheReference : Prop :=
  ∀ (profile : Profile) (E R T Dmax minW maxW : Int), 0 ≤ R → R ≤ E → 0 ≤ T → T ≤ E → 0 ≤ Dmax →
    let st := stages profile E R T Dmax minW maxW
    let hi := min (minW + profile.lup) (min (R + profile.sup) E)
    let lo := max (maxW - profile.ldn) (max (R - profile.sdn) 0)
    (0 ≤ st.reference ∧ st.reference ≤ E ∧ st.reference ≤ T + Dmax) ∧
    (lo ≤ hi → st.conflict = none ∧
      st.reference = min (min (max (blend profile.blend R T) lo) hi) (T + Dmax) ∧
      (lo ≤ T + Dmax → st.shortfall = none) ∧ (T + Dmax < lo → st.shortfall = some (lo - st.reference))) ∧
    (hi < lo → st.conflict = some (lo - hi) ∧ st.reference = min R (T + Dmax) ∧
      (R ≤ T + Dmax → st.shortfall = none) ∧ (T + Dmax < R → st.shortfall = some (R - st.reference))) ∧
    (st.conflict = none → st.shortfall = none → lo ≤ st.reference ∧ st.reference ≤ hi)

/-- The division of the cluster budget: in every case each ceiling lies in its range, a proportional and a spare division spend the budget
exactly, each share is its floor or one kilowatt more, and the extra kilowatts go to the earliest clusters of the order that have room
(R100 to R104). -/
def Obligations.BudgetDivisionIsExact : Prop :=
  ∀ (budget : Int) (cs : List ActiveCluster), 0 ≤ budget → (∀ c ∈ cs, 0 ≤ c.forecast ∧ c.forecast ≤ c.rated) →
    let shares := divideBudget budget cs
    let F := (cs.map ActiveCluster.forecast).sum
    let Q := (cs.map fun c => c.rated - c.forecast).sum
    let given := (shares.map Prod.snd).sum
    let divided (floor most : ActiveCluster → Int) : Prop :=
      given = budget ∧
      List.Forall₂ (fun c x => x.1 = c.port ∧ (x.2 = floor c ∨ x.2 = floor c + 1) ∧ x.2 ≤ most c) cs shares ∧
      ∀ (i j : Nat) (ci cj : ActiveCluster) (xi xj : Port × Int), i < j → cs[i]? = some ci → cs[j]? = some cj → shares[i]? = some xi → shares[j]? = some xj →
        floor ci < most ci → xj.2 = floor cj + 1 → xi.2 = floor ci + 1
    let each (value : ActiveCluster → Int) : Prop := shares = cs.map fun c => (c.port, value c)
    (0 < F → budget ≤ F → divided (fun c => budget * c.forecast / F) ActiveCluster.forecast) ∧
    (F < budget → Q = 0 → each ActiveCluster.forecast) ∧
    (F < budget → 0 < Q → budget - F < Q →
      divided (fun c => c.forecast + (budget - F) * (c.rated - c.forecast) / Q) ActiveCluster.rated) ∧
    (F < budget → 0 < Q → Q ≤ budget - F → each ActiveCluster.rated) ∧
    (F = 0 → budget = 0 → each fun _ => 0)

/-- The division of a storage target's magnitude: shares by availability, each its floor or one kilowatt more, never above the availability, that sum to
the target exactly; the remainder's kilowatts go to the earliest ports of the order that have room (R85, R86). -/
def Obligations.StorageDivisionIsExact : Prop :=
  ∀ (amount : Int) (members : List (Port × Int)), 0 < amount → (∀ m ∈ members, 0 ≤ m.2) →
    let total := (members.map Prod.snd).sum
    amount ≤ total →
      let shares := divideAmong amount members
      (shares.map Share.given).sum = amount ∧
      List.Forall₂ (fun m x => x.port = m.1 ∧ 0 ≤ x.given ∧ x.given ≤ m.2 ∧
        (x.given = amount * m.2 / total ∨ x.given = amount * m.2 / total + 1)) members shares ∧
      ∀ (i j : Nat) (mi mj : Port × Int) (xi xj : Share), i < j → members[i]? = some mi → members[j]? = some mj → shares[i]? = some xi →
        shares[j]? = some xj → amount * mi.2 / total < mi.2 → xj.given = amount * mj.2 / total + 1 → xi.given = amount * mi.2 / total + 1

/-- SEQUENTIAL order from start s: the ports (s + k) mod 12 for k = 0 … 11, each once, ending at s − 1, or at 11 from start 0 (R95). INTERLEAVED
order: s XOR k for k = 0 … 15 without the results of 12 to 15, each port once, the ports that share the upper bits of s first, then those that
differ in bit 2, then those that differ in bit 3 (R96). -/
def Obligations.SweepOrdersNameEachPortOnce : Prop :=
  ((∀ s : Port, (sweepOrderOf .sequential s).map Fin.val = (List.range 12).map fun k => (s.val + k) % 12) ∧
  (∀ s : Port, (sweepOrderOf .sequential s).head? = some s) ∧
  (∀ s : Port, (sweepOrderOf .sequential s).getLast? = some (if s = 0 then 11 else s - 1)) ∧
  (∀ s p : Port, (sweepOrderOf .sequential s).count p = 1) ∧
  sweepOrderOf .sequential 2 = [2, 3, 4, 5, 6, 7, 8, 9, 10, 11, 0, 1]) ∧
  ((∀ s : Port, (sweepOrderOf .interleaved s).map Fin.val = ((List.range 16).map fun k => s.val ^^^ k).filter fun n => n < 12) ∧
  (∀ s p : Port, (sweepOrderOf .interleaved s).count p = 1) ∧
  ∀ s : Port, ((sweepOrderOf .interleaved s).map fun p => (s.val ^^^ p.val) / 4).IsChain (· ≤ ·))

/-- The sweep LFSR: one step shifts right and folds 0xB400 in where the bit shifted out is 1; a nonzero register stays nonzero and passes through all
65,535 nonzero values before it repeats (R94). -/
def Obligations.SweepLfsrHasFullPeriod : Prop :=
  (∀ r : BitVec 16, lfsrStep r = (r >>> 1) ^^^ (if r.toNat % 2 = 1 then 0xB400#16 else 0#16)) ∧
  (∀ r : BitVec 16, r ≠ 0 → lfsrStep r ≠ 0) ∧
  ∀ r : BitVec 16, r ≠ 0 → lfsrStep^[65535] r = r ∧ ∀ k, 0 < k → k < 65535 → lfsrStep^[k] r ≠ r

/-! ### Limits and budget releases -/

/-- The emission of a GOVERNING frame: the staged raises of the previous frame are discarded; then each port that is not ABSENT is sent one LIMIT by its
class and its recall: LOWER where its desired value is below its committed value or a recall stands, KEEP where they are equal, and where the desired
value is above it RAISE as far as the fit rule allows, the grants to the ports before it in the sweep order counted, with the rest staged, and KEEP
with all of it staged where nothing fits. Afterwards no staged raise of an ENGAGED port without a recall fits any further, and the net commitment exceeds R,
and the export commitment E, only where it did before (R106, R107, R115 to R117, R129). -/
def Obligations.EmissionFollowsTheClasses : Prop :=
  ∀ s : State, s.SweepInOrder →
    let t := s.emitFrame
    t = { s with records := t.records, links := t.links } ∧
    t.netCommitment ≤ max s.netCommitment s.reference ∧ t.exportCommitment ≤ max s.exportCommitment s.site.exportLimit ∧
    (∀ p d, ((s.config p).role = .cluster ∨ (s.config p).role = .storage) → (t.record p).staged = some d →
      (t.record p).outstanding = none → (t.record p).participation = .engaged → t.fit p d ≤ (t.record p).committed) ∧
    ∀ p, let r := s.record p
      let base : PortRecord := { r with staged := none }
      let sent (action : LimitAction) (value : Int) (record : PortRecord) : Prop :=
        t.record p = { record with lastSent := some value } ∧
          t.link p = (s.link p).enqueue (.limit action value s.frameNumber)
      let quiet : Prop := t.record p = base ∧ t.link p = s.link p
      let active : Prop := r.participation = .engaged ∨ r.participation = .recalling
      (r.participation = .absent → quiet) ∧
      (r.participation = .stale → r.outstanding = none → sent .keep r.committed base) ∧
      (r.participation = .stale → ∀ u, r.outstanding = some u → sent .lower u.value base) ∧
      (active → r.desired = none → quiet) ∧
      (active → ∀ d, r.desired = some d →
        (d < r.committed → r.outstanding = none →
          sent .lower d { base with outstanding := some ⟨d, s.frameNumber⟩, participation := .recalling }) ∧
        (d < r.committed → ∀ u, r.outstanding = some u → d < u.value →
          sent .lower d { base with outstanding := some ⟨d, u.firstSend⟩ }) ∧
        (d < r.committed → ∀ u, r.outstanding = some u → u.value ≤ d → sent .lower u.value base) ∧
        (r.committed ≤ d → ∀ u, r.outstanding = some u → sent .lower u.value { base with staged := some d }) ∧
        (d = r.committed → r.outstanding = none → sent .keep r.committed base) ∧
        (r.committed < d → r.outstanding = none → ∀ earlier later, s.sweepOrder = earlier ++ p :: later →
          let met : State := { s with records := Vector.ofFn fun q : Port => if q ∈ earlier then t.record q else s.record q }
          let share : Int :=
            if (s.config p).role = .cluster then max r.committed (s.config p).fallback
            else if (s.config p).role = .storage then max r.committed 0 else 0
          let g := min d (min (r.committed + (s.reference - met.netCommitment)) (share + (s.site.exportLimit - met.exportCommitment)))
          (g ≤ r.committed → sent .keep r.committed { base with staged := some d }) ∧
          (r.committed < g → g < d → sent .raise g { base with committed := g, staged := some d }) ∧
          (r.committed < g → d ≤ g → sent .raise d { base with committed := d })))

/-- A staged raise served: to an ENGAGED port without a recall, up to the net limit and the export headroom limit; granted in full it ends, granted in part
it stands, and without a grant nothing is sent (R116, R128).
A budget release serves the staged raises in the current sweep order, each by the fit rule with the grants to the ports before it counted; it raises only
ENGAGED ports with a staged raise and no recall, lifts the net commitment to at most R and the export commitment to at most E, and leaves no staged
raise that the fit rule would still grant (R92, R111, R116, R128). -/
def Obligations.BudgetReleaseGrantsWhatFits : Prop :=
  (∀ (s : State) (p : Port),
    let r := s.record p
    let room (share : Int) : Int := min (r.committed + (s.reference - s.netCommitment)) (share + (s.site.exportLimit - s.exportCommitment))
    let fits : Int :=
      if (s.config p).role = .cluster then room (max r.committed (s.config p).fallback) else room (max r.committed 0)
    (∀ d, r.staged = some d → r.outstanding = none → r.participation = .engaged →
      ((s.config p).role = .cluster ∨ (s.config p).role = .storage) →
      let g := min d fits
      (g ≤ r.committed → s.serveStaged p = s) ∧
      (r.committed < g →
        (s.serveStaged p).record p =
          { r with committed := g, lastSent := some g, staged := if d ≤ g then none else some d } ∧
        (s.serveStaged p).link p = (s.link p).enqueue (.limit .raise g s.frameNumber) ∧
        (∀ q, q ≠ p → (s.serveStaged p).record q = s.record q ∧ (s.serveStaged p).link q = s.link q) ∧
        s.serveStaged p = { s with records := (s.serveStaged p).records, links := (s.serveStaged p).links })) ∧
    ((r.staged = none ∨ r.outstanding ≠ none ∨ r.participation ≠ .engaged) → s.serveStaged p = s)) ∧
  (∀ s : State, s.SweepInOrder →
    let t := s.budgetRelease
    t = { s with records := t.records, links := t.links } ∧
    t.netCommitment ≤ max s.netCommitment s.reference ∧ t.exportCommitment ≤ max s.exportCommitment s.site.exportLimit ∧
    (∀ p, (s.record p).committed ≤ (t.record p).committed) ∧
    (∀ p, ((s.record p).staged = none ∨ (s.record p).outstanding ≠ none ∨ (s.record p).participation ≠ .engaged) →
      t.record p = s.record p ∧ t.link p = s.link p) ∧
    (∀ p d earlier later, s.sweepOrder = earlier ++ p :: later → (s.record p).staged = some d → (s.record p).outstanding = none →
      (s.record p).participation = .engaged → ((s.config p).role = .cluster ∨ (s.config p).role = .storage) →
      let r := s.record p
      let met : State := { s with records := Vector.ofFn fun q : Port => if q ∈ earlier then t.record q else s.record q }
      let share : Int := if (s.config p).role = .cluster then max r.committed (s.config p).fallback else max r.committed 0
      let g := min d (min (r.committed + (s.reference - met.netCommitment)) (share + (s.site.exportLimit - met.exportCommitment)))
      (g ≤ r.committed → t.record p = r ∧ t.link p = s.link p) ∧
      (r.committed < g →
        t.record p = { r with committed := g, lastSent := some g, staged := if d ≤ g then none else some d } ∧
        t.link p = (s.link p).enqueue (.limit .raise g s.frameNumber))) ∧
    (∀ p d, ((s.config p).role = .cluster ∨ (s.config p).role = .storage) → (t.record p).staged = some d →
      (t.record p).outstanding = none → (t.record p).participation = .engaged → t.fit p d ≤ (t.record p).committed))

/-! ### The History Ring -/

/-- The append of a record: RESEED where one is due, the oldest of 600 removed, the since-base count advanced to at most 600; then the compliance
check of a record with P over the measured exports of the window: a failure marks the record and latches, and the first of an episode advances the
counter and raises COMPLIANCE with the excess; a pass clears the latch (R28, R33 to R35). -/
def Obligations.AppendMarksAndChecksTheRecord : Prop :=
  ∀ (s : State) (profile : Profile) (r : FrameRecord), profile.inRange = true →
    let t := s.appendRecord profile r
    let exports := (t.ring.take (min profile.window t.sinceBase)).filterMap FrameRecord.measured
    let rise (P x : Int) : Int := P - x - (profile.lup + s.site.tolerance)
    let fall (P x : Int) : Int := x - P - (profile.ldn + s.site.tolerance)
    let fails : Prop := ∃ P, r.measured = some P ∧ ∃ x ∈ exports, 0 < rise P x ∨ 0 < fall P x
    (∃ m, t.ring = ({ r with marks := m } :: s.ring).take 600 ∧
      m.excursion = r.marks.excursion ∧ m.windowConflict = r.marks.windowConflict ∧ m.hold = r.marks.hold ∧
      m.reseed = (r.marks.reseed || s.reseedPending) ∧ (m.compliance = true ↔ r.marks.compliance = true ∨ fails)) ∧
    t.sinceBase = (if s.sinceBase < 600 then s.sinceBase + 1 else s.sinceBase) ∧ t.reseedPending = false ∧
    (r.measured = none → t.complianceLatched = s.complianceLatched) ∧
    (r.measured ≠ none → (t.complianceLatched = true ↔ fails)) ∧
    (fails → s.complianceLatched = false →
      t.complianceEpisodes = s.complianceEpisodes + (if s.complianceEpisodes < 65535 then 1 else 0) ∧
      ∃ P excess, r.measured = some P ∧ (∀ x ∈ exports, rise P x ≤ excess ∧ fall P x ≤ excess) ∧
        (∃ x ∈ exports, rise P x = excess ∨ fall P x = excess) ∧
        ∀ q, t.link q = s.notified [.compliance excess] q (s.link q)) ∧
    (¬fails ∨ s.complianceLatched = true → t.complianceEpisodes = s.complianceEpisodes ∧ t.links = s.links) ∧
    t = { s with
      ring := t.ring, sinceBase := t.sinceBase, reseedPending := t.reseedPending, complianceLatched := t.complianceLatched
      complianceEpisodes := t.complianceEpisodes, links := t.links }

/-! ### The Scan Unit -/

/-- SCAN_EXPIRY: with no scan in progress, one begins at channel 0 and runs to the first channel to be read; with one in progress, or the scan timer
stopped, nothing changes (R57, R58, R60, log entry 4). -/
def Obligations.ScanExpiryVisitsTheChannels : Prop :=
  ∀ s : State,
    (s.mode.running = true → s.scanTimer ≠ .stopped → s.scan = none →
      ∃ w : State, exec .scanExpiry s = .next w.settle ∧ s.Visited w 0) ∧
    ((s.scan ≠ none ∨ s.scanTimer = .stopped) → exec .scanExpiry s = .next s)

/-- SAMPLE_RECEIVED with status 0: the sample, scaled and clamped, joins the group; a full group is reduced into the buffer; a full buffer gives a new
current value, with the track, the ratio and the alarms of it, their notices, and for a meter that was lost METER_BACK and the return to GOVERNING;
then the scan goes on with the next channel (R60, R61, R63 to R65, R68, R70, R72, R73, R143). With no read awaited the answer is disregarded (R60). The loss mark
of a channel of any kind is cleared as it enters VALID (log entry 12). -/
def Obligations.ValidSampleIsTakenIntoItsChannel : Prop :=
  ∀ (s : State) (high mid low : Byte),
    (s.scan = none → ∀ status, exec (.sampleReceived high mid low status) s = .next s) ∧
    ∀ scan, s.scan = some scan → s.mode.running = true →
      let i := scan.channel
      let c := s.channel i
      let raw : Int := (high ++ mid ++ low).toInt
      let v : Int := max (-8388608) (min (raw * c.config.gain / 65536 + c.config.offset) 8388607)
      let group := c.group ++ [v]
      let present : Channel := { c with missingRun := 0, state := if c.state = .lost then .filling else c.state }
      let reduced : Int :=
        match c.config.reduction with
        | .first => group.headD 0
        | .max => group.max?.getD 0
        | .min => group.min?.getD 0
        | .mean => group.sum / c.config.groupSize
      let buffer := (if c.config.averaging ≤ c.buffer.length then c.buffer.drop 1 else c.buffer) ++ [reduced]
      let becomes (channel : Channel) (ns : List Notice) (mode : Mode) : Prop :=
        ∃ u w : State, exec (.sampleReceived high mid low 0#8) s = .next w.settle ∧ u.Visited w (i.val + 1) ∧
          u = { s with mode := mode, channels := s.channels.set i channel, links := u.links } ∧
          ∀ q, u.link q = s.notified ns q (s.link q)
      (group.length < c.config.groupSize → becomes { present with group := group } [] s.mode) ∧
      (c.config.groupSize ≤ group.length → buffer.length < c.config.averaging →
        becomes { present with group := [], buffer := buffer } [] s.mode) ∧
      (c.config.groupSize ≤ group.length → c.config.averaging ≤ buffer.length →
        let value : Int := buffer.sum / c.config.averaging
        let track : Int :=
          if c.config.kind = .irradiance then if c.state = .valid then max value (c.track - c.config.decay) else value
          else c.track
        let ratio : Int :=
          if c.config.kind = .irradiance then
            if track ≤ 0 then 256 else if value ≤ 0 then 0 else min 256 (256 * value / track)
          else c.ratio
        let latchesLow : Bool := c.config.monitor && decide (value ≤ c.config.low) && !c.lowAlarm
        let latchesHigh : Bool := c.config.monitor && decide (c.config.high ≤ value) && !c.highAlarm
        let back : Bool := decide (c.config.kind = .poiPower ∧ c.state ≠ .valid) && c.lossMark
        let returns : Bool := back && decide (s.mode = .holding)
        becomes
          { present with
            state := .valid, group := [], buffer := buffer, value := some value, lossMark := false, track := track
            ratio := ratio, lowAlarm := c.lowAlarm || latchesLow, highAlarm := c.highAlarm || latchesHigh }
          ((if c.config.notify && latchesLow then [.channelAlarm i false value] else []) ++
            (if c.config.notify && latchesHigh then [.channelAlarm i true value] else []) ++
            (if back then [.meterBack i value] else []) ++
            (if returns then [.modeChange .holding .governing] else []))
          (if returns then .governing else s.mode))

/-- A missing sample, by SAMPLE_RECEIVED with another status or CONVERTER_ANSWER_TIMEOUT: the missing-sample counter and the run advance; at the miss limit a
FILLING or VALID channel is LOST; a meter's loss raises METER_LOST and moves GOVERNING to HOLDING with the staged raises discarded and the HOLDING
entries advanced; then the scan goes on. A meter that has been LOST and has not become VALID since gives no second loss (R60, R62, R65, R67, R74, R129, R134,
R143). With no read awaited nothing changes, and that R67's last sentence outweighs its first is the model's choice (log entries 4 and 19). -/
def Obligations.MissingSampleMayLoseItsChannel : Prop :=
  ∀ (s : State) (command : Instr),
    (command = .converterAnswerTimeout ∨ ∃ high mid low status, status ≠ 0#8 ∧ command = .sampleReceived high mid low status) →
    (s.scan = none → exec command s = .next s) ∧
    ∀ scan, s.scan = some scan → s.mode.running = true →
      let i := scan.channel
      let c := s.channel i
      let run := if c.missingRun < c.config.missLimit then c.missingRun + 1 else c.missingRun
      let counted : Channel := { c with missing := c.missing + if c.missing < 65535 then 1 else 0, missingRun := run }
      let lost : Prop := c.config.missLimit ≤ run ∧ (c.state = .filling ∨ c.state = .valid)
      let meter : Prop := c.config.kind = .poiPower
      let becomes (channel : Channel) (u w : State) (ns : List Notice) : Prop :=
        exec command s = .next w.settle ∧ u.Visited w (i.val + 1) ∧
          u = { s with
            mode := u.mode, holdingEntries := u.holdingEntries, records := u.records
            channels := s.channels.set i channel, links := u.links } ∧
          ∀ q, u.link q = s.notified ns q (s.link q)
      let lostChannel : Channel :=
        { counted with state := .lost, group := [], buffer := [], value := none, ratio := 256, lossMark := true }
      (¬lost → ∃ u w, becomes counted u w [] ∧
        u.mode = s.mode ∧ u.records = s.records ∧ u.holdingEntries = s.holdingEntries) ∧
      (lost → ¬meter → ∃ u w, becomes lostChannel u w [] ∧
        u.mode = s.mode ∧ u.records = s.records ∧ u.holdingEntries = s.holdingEntries) ∧
      (lost → meter → c.lossMark = true → ∃ u w, becomes lostChannel u w [] ∧
        u.mode = s.mode ∧ u.records = s.records ∧ u.holdingEntries = s.holdingEntries) ∧
      (lost → meter → c.lossMark = false → s.mode ≠ .governing → ∃ u w, becomes lostChannel u w [.meterLost i c.config.missLimit] ∧
        u.mode = s.mode ∧ u.records = s.records ∧ u.holdingEntries = s.holdingEntries) ∧
      (lost → meter → c.lossMark = false → s.mode = .governing →
        ∃ u w, becomes lostChannel u w [.meterLost i c.config.missLimit, .modeChange .governing .holding] ∧
          u.mode = .holding ∧ (∀ p, u.record p = { s.record p with staged := none }) ∧
          u.holdingEntries = s.holdingEntries + if s.holdingEntries < 65535 then 1 else 0)

/-- A valid sample's value is floor(raw × gain / 65,536) + offset, clamped to the channel's range; the worked values of the rule (R61). -/
def Obligations.SampleIsScaledAndClamped : Prop :=
  (∀ (c : ChannelConfig) (raw : Int), c.scale raw = max (-8388608) (min (raw * c.gain / 65536 + c.offset) 8388607)) ∧
  (∀ (c : ChannelConfig) (raw : Int), c.gain = 65536 → c.scale raw = max (-8388608) (min (raw + c.offset) 8388607)) ∧
  (∀ (c : ChannelConfig) (raw : Int), c.gain = 0 → c.scale raw = max (-8388608) (min c.offset 8388607)) ∧
  (∀ (c : ChannelConfig) (raw : Int), -8388608 ≤ c.scale raw ∧ c.scale raw ≤ 8388607) ∧
  (∀ c : ChannelConfig, c.gain = 40000 → c.offset = 0 → c.scale (-3) = -2) ∧
  ∀ c : ChannelConfig, c.gain = 98304 → c.offset = -500 → c.scale 1000 = 1000

/-! ### Link ports -/

/-- A byte with its stop bit moves the receiver as the table says: HUNT waits for SYNC, KIND and LEN are kept, a length above 64 rejects, PAYLOAD
collects LEN bytes, and CHECK accepts or rejects. A byte without its stop bit is discarded in HUNT and rejects the frame elsewhere, as a gap does; in HUNT
a gap has no frame to reject (R147, R148, log entry 5). A MODE, QUERY or CLEAR whose code is outside its table is answered NAK RANGE from a port of
supervisory standing outside LOADING, NAK ROLE from any other port there, and NAK STATE in LOADING (R137, R142, R151, R152, R157). -/
def Obligations.ReceiverTakesEachByte : Prop :=
  ∀ (s : State) (p : Port) (b : Byte),
    let l := s.link p
    let moves (r : Receiver) : Prop := ∃ t, exec (.linkByteReceived p b true) s = .next t ∧
      t = { s with links := t.links } ∧ t.link p = { l with receiver := r } ∧ ∀ q, q ≠ p → t.link q = s.link q
    let rejected (c : Instr) : Prop := exec c s = exec (.frameRejected p) s
    (l.receiver = .hunt → b = 0xA5#8 → moves .kind) ∧
    (l.receiver = .hunt → b ≠ 0xA5#8 → moves .hunt) ∧
    (l.receiver = .kind → moves (.len b)) ∧
    (∀ kind, l.receiver = .len kind →
      (64 < b.toNat → rejected (.linkByteReceived p b true)) ∧ (b.toNat = 0 → moves (.check kind b [])) ∧
      (0 < b.toNat → b.toNat ≤ 64 → moves (.payload kind b []))) ∧
    (∀ kind len held, l.receiver = .payload kind len held →
      (held.length + 1 < len.toNat → moves (.payload kind len (held ++ [b]))) ∧
      (len.toNat ≤ held.length + 1 → moves (.check kind len (held ++ [b])))) ∧
    (∀ kind len held, l.receiver = .check kind len held →
      let check := held.foldl (· ^^^ ·) (kind ^^^ len)
      (b ≠ check → rejected (.linkByteReceived p b true)) ∧
      (b = check → isRequestKind kind = false → ∃ w : State, exec (.linkByteReceived p b true) s = .next w.settle ∧
        s.Answers s w p [.nak kind .kind] []) ∧
      (b = check → isRequestKind kind = true → Request.decode kind held = none →
        ∃ w : State, exec (.linkByteReceived p b true) s = .next w.settle ∧ s.Answers s w p [.nak kind .length] []) ∧
      (∀ c r, b = check → isRequestKind kind = true → c.request = some (p, r) → Request.decode kind held = some r →
        exec (.linkByteReceived p b true) s = exec c s) ∧
      (∀ r, b = check → isRequestKind kind = true → Request.decode kind held = some r → r.OutsideTable →
        let refused (reason : NakReason) : Prop :=
          ∃ w : State, exec (.linkByteReceived p b true) s = .next w.settle ∧ s.Answers s w p [.nak kind reason] []
        (s.mode = .loading → refused .state) ∧ (s.mode ≠ .loading → ¬s.Supervises p → refused .role) ∧
        (s.mode ≠ .loading → s.Supervises p → refused .range))) ∧
    (l.receiver = .hunt → exec (.linkByteReceived p b false) s = .next s ∧ exec (.interByteGapTimeout p) s = .next s) ∧
    (l.receiver ≠ .hunt → rejected (.linkByteReceived p b false) ∧ rejected (.interByteGapTimeout p))

/-- The bytes of a request's frame, arriving one by one at a receiver in HUNT, do what the request's command does: that command stands for the
whole frame's arrival (R146 to R148, R157, log entry 5). -/
def Obligations.FrameBytesAreTheRequest : Prop :=
  ∀ (c : Instr) (s : State) (p : Port) (r : Request), c.request = some (p, r) → (s.link p).receiver = .hunt →
    runCommands (r.frame.map fun b => .linkByteReceived p b true) s = exec c s

/-- Every request is read back from its payload, and a payload read as a request is that request's own: no bit is dropped. Its kind code, its length and
the place and width of each of its fields are those of the request table, and the commands of MODE, QUERY and CLEAR carry the codes of theirs (R157). -/
def Obligations.RequestsAreReadBack : Prop :=
  (∀ r : Request, isRequestKind r.kind = true ∧ Request.decode r.kind r.payload = some r) ∧
  (∀ (kind : Byte) (payload : List Byte) (r : Request), Request.decode kind payload = some r → r.kind = kind ∧ r.payload = payload) ∧
  (∀ r : Request, r.LaidOut) ∧
  ∀ (p : Port) (index : BitVec 16) (count channel : Byte),
    (Instr.queryStatus p index count).request = some (p, .query 0 index count) ∧
    (Instr.queryPort p index count).request = some (p, .query 1 index count) ∧
    (Instr.queryHistory p index count).request = some (p, .query 2 index count) ∧
    (Instr.queryChannel p index count).request = some (p, .query 3 index count) ∧
    (Instr.queryList p index count).request = some (p, .query 4 index count) ∧
    (Instr.queryCounters p index count).request = some (p, .query 5 index count) ∧
    (Instr.modeStandby p).request = some (p, .mode 0) ∧ (Instr.modeRun p).request = some (p, .mode 1) ∧
    (Instr.clearCounters p channel).request = some (p, .clear 0 channel) ∧
    (Instr.clearAlarms p channel).request = some (p, .clear 1 channel) ∧
    (Instr.clearNotices p channel).request = some (p, .clear 2 channel)

/-- The messages the part sends: each payload has the length of the table; a LIMIT carries its action, its signed value and its frame number, most significant
byte first; an ACK and a NAK the request's kind with the CLAMPED flag or the reason; a NOTICE its kind, its count and four detail bytes; a REPLY its target,
the request's index and the data, laid out as the table of its target says, and a NOTICE its detail as that of its kind. The frame is SYNC, KIND, LEN
and the payload, and a CHECK that makes the exclusive-or from KIND on 0 (R146, R155, R157). That a LIST slot that is present has 1 as its byte for
"slot present" is the model's choice (log entry 20). -/
def Obligations.MessagesHaveTheirLayout : Prop :=
  (∀ (action : LimitAction) (value : Int) (frame : FrameNo), -2147483648 ≤ value → value ≤ 2147483647 →
    let p := (Message.limit action value frame).payload
    p.length = 9 ∧ p[0]? = some (match action with | .raise => 1#8 | .keep => 2#8 | .lower => 3#8 | .release => 4#8) ∧
      (field p 1 4).toInt = value ∧ field p 5 4 = frame) ∧
  (∀ (kind : Byte) (clamped restart : Bool), (Message.ack kind clamped restart).payload = [kind, if clamped = true then 1#8 else 0#8]) ∧
  (∀ (kind : Byte) (reason : NakReason), (Message.nak kind reason).payload = [kind, match reason with
    | .kind => 1#8 | .length => 2#8 | .role => 3#8 | .state => 4#8 | .range => 5#8 | .listFull => 6#8 | .notFound => 7#8
    | .noRecall => 8#8 | .mismatch => 9#8 | .config => 10#8]) ∧
  (∀ (count : Nat) (n : Notice), count ≤ 255 →
    let p := (Message.notice count n).payload
    p.length = 6 ∧ (field p 0 1).toNat = n.code ∧ (field p 1 1).toNat = count ∧ p.drop 2 = n.detail) ∧
  (∀ (index : BitVec 16) (data : ReplyData),
    let p := (Message.reply index data).payload
    let body : Nat × Nat :=
      match data with
      | .status _ => (0, 31) | .port .. => (1, 58) | .history .. => (2, 36) | .channel _ => (3, 11) | .list .. => (4, 36)
      | .counters _ => (5, 48)
    (∀ values, data = .counters values → values.length ≤ 24) →
      p.length = 3 + body.2 ∧ (field p 0 1).toNat = body.1 ∧ field p 1 2 = index ∧ p.drop 3 = data.bytes) ∧
  (∀ n : Notice, n.LaidOut) ∧ (∀ data : ReplyData, data.LaidOut) ∧
  (∀ m : Message, m.kind = match m with
    | .limit .. => 0x80#8 | .ack .. => 0x81#8 | .nak .. => 0x82#8 | .reply .. => 0x83#8 | .notice .. => 0x84#8) ∧
  ∀ m : Message, (∃ check, m.frame = [0xA5#8, m.kind, BitVec.ofNat 8 m.payload.length] ++ m.payload ++ [check]) ∧
    (m.frame.drop 1).foldl (· ^^^ ·) 0#8 = 0#8

/-- FRAME_REJECTED, and outside HUNT INTER_BYTE_GAP_TIMEOUT and a byte without its stop bit (log entry 5): the receiver is in HUNT, the
rejected counter advances and an UP link counts one more rejection in a row; the eighth takes the link DOWN: queue, message being sent and notices are lost, the port falls silent unless it is ABSENT or silent already, and a SUPERVISOR port's BOUND
entries leave the list (R50, R121, R148 to R150). -/
def Obligations.RejectionsTakeTheLinkDown : Prop :=
  ∀ (s : State) (p : Port),
    let l := s.link p
    let r := s.record p
    let rejected := l.rejected + if l.rejected < 65535 then 1 else 0
    let silent : Prop := r.participation ≠ .absent ∧ ¬(r.participation = .stale ∧ r.cause = some .silence)
    let bound (e : Entry) : Prop := (s.config p).role = .supervisor ∧ e.port = p ∧ e.profile.bound = true
    ∀ c : Instr,
    (c = .frameRejected p ∨ l.receiver ≠ .hunt ∧ (c = .interByteGapTimeout p ∨ ∃ b, c = .linkByteReceived p b false)) →
    ((l.up = false ∨ l.rejections < 7) → ∃ w : State, exec c s = .next w.settle ∧
      w = { s with links := w.links } ∧
      w.link p = { l with receiver := .hunt, rejected := rejected, rejections := if l.up = true then l.rejections + 1 else l.rejections } ∧
      ∀ q, q ≠ p → w.link q = s.link q) ∧
    (l.up = true → 7 ≤ l.rejections → ∃ w : State, exec c s = .next w.settle ∧
      w = { s with links := w.links, records := w.records, entries := w.entries } ∧
      w.link p = ⟨.hunt, false, 0, [], .idle, [], l.accepted, rejected⟩ ∧
      (silent → w.record p =
        { r with
          participation := .stale, cause := some .silence, staged := none, committed := max r.committed (s.fbOrZero p) }) ∧
      (¬silent → w.record p = r) ∧
      (∀ q, q ≠ p → w.record q = s.record q) ∧
      w.entries = s.entries.filter (fun e => ¬bound e) ∧
      ∃ changes : List Notice, changes.length = s.entries.length - w.entries.length ∧
        (∀ n ∈ changes, ∃ held active, n = .listChange .unbound (some p) held active) ∧
        (∀ n, changes.getLast? = some n → n = .listChange .unbound (some p) w.entries.length (activePosition w.entries)) ∧
        ∀ q, q ≠ p → w.link q = s.notified
          ((if silent then [.portStale p .silence (max r.committed (s.fbOrZero p))] else []) ++ changes) q (s.link q))

/-- An accepted frame leaves the receiver in HUNT, advances the accepted counter and ends a run of rejections; it brings a DOWN link UP with nothing
queued, nothing pending and nothing being sent (R148, R149).
A message admitted to an UP link's queue: a LIMIT replaces a waiting LIMIT in place; otherwise a message is appended while fewer than four wait, and
with four waiting it takes the place of the newest reply. A DOWN link discards it (R112, R150, R154). -/
def Obligations.LinkAcceptsFramesAndAdmitsMessages : Prop :=
  (∀ l : LinkPort,
    let accepted := l.accepted + if l.accepted < 65535 then 1 else 0
    (l.up = true → l.accept = { l with receiver := .hunt, accepted := accepted, rejections := 0 }) ∧
    (l.up = false → l.accept = ⟨.hunt, true, 0, [], .idle, [], accepted, l.rejected⟩)) ∧
  (∀ (l : LinkPort) (m : Message),
    let limit (x : Message) : Prop := ∃ action value frame, x = .limit action value frame
    let holds (queue : List Message) : Prop := l.enqueue m = { l with queue := queue }
    (l.up = false → l.enqueue m = l) ∧
    (l.up = true → limit m → ∀ older x newer, l.queue = older ++ x :: newer → limit x → (∀ y ∈ older ++ newer, ¬limit y) →
      holds (older ++ m :: newer)) ∧
    (l.up = true → (limit m → ∀ x ∈ l.queue, ¬limit x) → l.queue.length < 4 → holds (l.queue ++ [m])) ∧
    (l.up = true → (limit m → ∀ x ∈ l.queue, ¬limit x) → 4 ≤ l.queue.length →
      ∀ older x newer, l.queue = older ++ x :: newer → x.isReply = true → (∀ y ∈ newer, y.isReply = false) →
        holds (older ++ m :: newer)))

/-- A notice raised at an UP link: the entry of its kind advances its count to at most 255 and takes the new detail; with none of its kind an entry with
count 1 is made in its place by kind code; entries of other kinds stay. A DOWN link takes nothing (R159). -/
def Obligations.NoticesMergeByKind : Prop :=
  ∀ (l : LinkPort) (n : Notice),
    (l.up = false → l.raise n = l) ∧
    (l.up = true → (l.notices.map fun e => e.notice.code).Pairwise (· < ·) →
      (l.raise n = { l with notices := (l.raise n).notices }) ∧
      ((l.raise n).notices.map fun e => e.notice.code).Pairwise (· < ·) ∧
      (∀ e, e.notice.code ≠ n.code → (e ∈ (l.raise n).notices ↔ e ∈ l.notices)) ∧
      (∀ e ∈ l.notices, e.notice.code = n.code →
        ⟨e.count + if e.count < 255 then 1 else 0, n⟩ ∈ (l.raise n).notices) ∧
      ((∀ e ∈ l.notices, e.notice.code ≠ n.code) → ⟨1, n⟩ ∈ (l.raise n).notices))

/-- TRANSMIT_COMPLETE ends the message being sent; an idle transmitter then takes the oldest queued message or, with the queue empty, the pending notice of
the lowest kind code with its count and detail. With nothing being sent the event does not occur (R153, R155, R160, log entry 4). -/
def Obligations.TransmitterTakesTheOldestMessageThenNotices : Prop :=
  (∀ (s : State) (p : Port),
    ((s.link p).transmitter = .idle → exec (.transmitComplete p) s = .next s) ∧
    ∀ m, (s.link p).transmitter = .sending m → ∃ w : State, exec (.transmitComplete p) s = .next w.settle ∧
      w = { s with links := w.links } ∧ w.link p = { s.link p with transmitter := .idle } ∧
      ∀ q, q ≠ p → w.link q = s.link q) ∧
  ∀ l : LinkPort,
    (l.up = false ∨ l.transmitter ≠ .idle → l.startSending = l) ∧
    (l.up = true → l.transmitter = .idle →
      (∀ m rest, l.queue = m :: rest → l.startSending = { l with queue := rest, transmitter := .sending m }) ∧
      (∀ e rest, l.queue = [] → l.notices = e :: rest →
        l.startSending = { l with notices := rest, transmitter := .sending (.notice e.count e.notice) }) ∧
      (l.queue = [] → l.notices = [] → l.startSending = l))

/-! ### Invariants: what every command keeps -/

/-- The timers, the scan, the image read, the list and the records follow the mode, the sweep order names each port once, and the LFSR is never 0
(R2, R51, R57, R59, R91, R94 to R96, R108, R133). -/
def Obligations.StepsKeepTheModeAndSweepInOrder : Prop :=
  ∀ s t : State, s.FollowsMode → s.SweepInOrder → step s = .next t → t.FollowsMode ∧ t.SweepInOrder

/-- Every queue holds at most four messages and one LIMIT, every pending set at most one entry of a kind with a count of 1 … 255, a DOWN link holds and
sends nothing, and an idle transmitter has nothing to send (R149, R150, R153 to R155, R159). -/
def Obligations.StepsKeepTheLinksDisciplined : Prop :=
  ∀ s t : State, s.LinksDisciplined → step s = .next t → t.LinksDisciplined

/-- The ring holds at most 600 records whose frame numbers increase by exactly one, the newest that of the last frame (R28, R29). -/
def Obligations.StepsKeepTheRingInOrder : Prop :=
  ∀ s t : State, s.RingInOrder → step s = .next t → t.RingInOrder

/-- While the part runs the export commitment never exceeds the export limit, every recall lies below its port's committed value, and no last-sent value lies
above it; a port is RECALLING exactly when it is ENGAGED or RECALLING and has an outstanding recall, and an ABSENT port has no recall, no staged raise and no
desired value (R108, R109, R111, R112, R119). -/
def Obligations.StepsKeepTheCommitmentsWithinTheLimit : Prop :=
  ∀ s t : State, s.FollowsMode → s.SweepInOrder → s.CommitmentsKept → step s = .next t → t.CommitmentsKept

/-- A channel has a current value exactly when it is VALID, its group is never full, its buffer holds at most M values, and it is OFF exactly when its kind is
(R55, R56, R62 to R65). While the part runs there is exactly one meter; it is VALID throughout GOVERNING, and in HOLDING it is not VALID and its loss mark
is set (R22, R23, R68, R141, R143). That a channel of any kind that is VALID has its loss mark clear is log entry 12. -/
def Obligations.StepsKeepTheChannelsInOrder : Prop :=
  ∀ s t : State, s.FollowsMode → s.ChannelsInOrder → step s = .next t → t.ChannelsInOrder

/-- The list holds at most four pushed entries, every profile field lies in its range, and the default profile is never BOUND (R41, R42, R44). -/
def Obligations.StepsKeepTheListInOrder : Prop :=
  ∀ s t : State, s.ListInOrder → step s = .next t → t.ListInOrder

/-- The reference lies in [0, E] while the part runs, and the figures its computation rests on are never negative (R4, R8 to R11, R81, R124). -/
def Obligations.StepsKeepTheReferenceWithinTheLimit : Prop :=
  ∀ s t : State, s.FiguresKept → step s = .next t → t.FiguresKept

/-- While the part runs, every committed value lies in its port's range, [0, rated] for a cluster and [−rated charge, rated discharge] for storage, with
every value it can come from: reports, desired values, recalls and staged raises, and an ABSENT port is counted at fb or 0. That an ABSENT port has
no recall, no staged raise and no desired value is kept by StepsKeepTheCommitmentsWithinTheLimit (R73, R77 to R79, R85, R86, R89, R101 to R103, R108, R109, R124). -/
def Obligations.StepsKeepCommitmentsInTheirRatings : Prop :=
  ∀ s t : State, s.FollowsMode → s.SweepInOrder → s.CommitmentsKept → s.RatingsKept → step s = .next t → t.RatingsKept
end

