-- ==== Sys2Proof/Laws/State.lean ====
section
/-! SUPPORT. What each update of the state leaves as it is, field by field, and what it makes of the table it writes. -/

namespace Sys2Proof.Machine

/-! ### Reading after writing -/

@[simp] theorem State.record_setRecord (s : State) (p q : Port) (r : PortRecord) :
    (s.setRecord p r).record q = if q = p then r else s.record q := by
  simp only [State.record, State.setRecord, Fin.getElem_fin, Vector.getElem_set, Fin.val_inj, eq_comm]

@[simp] theorem State.link_setLink (s : State) (p q : Port) (l : LinkPort) :
    (s.setLink p l).link q = if q = p then l else s.link q := by
  simp only [State.link, State.setLink, Fin.getElem_fin, Vector.getElem_set, Fin.val_inj, eq_comm]

@[simp] theorem State.channel_setChannel (s : State) (c d : ChannelIndex) (ch : Channel) :
    (s.setChannel c ch).channel d = if d = c then ch else s.channel d := by
  simp only [State.channel, State.setChannel, Fin.getElem_fin, Vector.getElem_set, Fin.val_inj, eq_comm]

@[simp] theorem State.record_mapRecords (s : State) (f : Port → PortRecord → PortRecord) (q : Port) :
    (s.mapRecords f).record q = f q (s.record q) := by
  simp [State.record, State.mapRecords]

@[simp] theorem State.link_mapLinks (s : State) (f : Port → LinkPort → LinkPort) (q : Port) :
    (s.mapLinks f).link q = f q (s.link q) := by
  simp [State.link, State.mapLinks]

@[simp] theorem State.channel_mapChannels (s : State) (f : ChannelIndex → Channel → Channel) (d : ChannelIndex) :
    (s.mapChannels f).channel d = f d (s.channel d) := by
  simp [State.channel, State.mapChannels]

/-! ### Equal tables -/

theorem records_ext {v w : Vector PortRecord 12} (h : ∀ p : Port, v[p] = w[p]) : v = w := by
  ext i hi
  exact h ⟨i, hi⟩

theorem links_ext {v w : Vector LinkPort 12} (h : ∀ p : Port, v[p] = w[p]) : v = w := by
  ext i hi
  exact h ⟨i, hi⟩

theorem channels_ext {v w : Vector Channel 16} (h : ∀ c : ChannelIndex, v[c] = w[c]) : v = w := by
  ext i hi
  exact h ⟨i, hi⟩

/-! ### `State.setRecord` -/

@[simp] theorem State.setRecord_mode (s : State) (p : Port) (r : PortRecord) : (s.setRecord p r).mode = s.mode := by simp only [State.setRecord]
@[simp] theorem State.setRecord_restartCause (s : State) (p : Port) (r : PortRecord) : (s.setRecord p r).restartCause = s.restartCause := by simp only [State.setRecord]
@[simp] theorem State.setRecord_checkResult (s : State) (p : Port) (r : PortRecord) : (s.setRecord p r).checkResult = s.checkResult := by simp only [State.setRecord]
@[simp] theorem State.setRecord_site (s : State) (p : Port) (r : PortRecord) : (s.setRecord p r).site = s.site := by simp only [State.setRecord]
@[simp] theorem State.setRecord_portTable (s : State) (p : Port) (r : PortRecord) : (s.setRecord p r).portTable = s.portTable := by simp only [State.setRecord]
@[simp] theorem State.setRecord_restartPending (s : State) (p : Port) (r : PortRecord) : (s.setRecord p r).restartPending = s.restartPending := by simp only [State.setRecord]
@[simp] theorem State.setRecord_holdingEntries (s : State) (p : Port) (r : PortRecord) : (s.setRecord p r).holdingEntries = s.holdingEntries := by simp only [State.setRecord]
@[simp] theorem State.setRecord_readProgress (s : State) (p : Port) (r : PortRecord) : (s.setRecord p r).readProgress = s.readProgress := by simp only [State.setRecord]
@[simp] theorem State.setRecord_frameTimer (s : State) (p : Port) (r : PortRecord) : (s.setRecord p r).frameTimer = s.frameTimer := by simp only [State.setRecord]
@[simp] theorem State.setRecord_frameNumber (s : State) (p : Port) (r : PortRecord) : (s.setRecord p r).frameNumber = s.frameNumber := by simp only [State.setRecord]
@[simp] theorem State.setRecord_primingCounter (s : State) (p : Port) (r : PortRecord) : (s.setRecord p r).primingCounter = s.primingCounter := by simp only [State.setRecord]
@[simp] theorem State.setRecord_reference (s : State) (p : Port) (r : PortRecord) : (s.setRecord p r).reference = s.reference := by simp only [State.setRecord]
@[simp] theorem State.setRecord_target (s : State) (p : Port) (r : PortRecord) : (s.setRecord p r).target = s.target := by simp only [State.setRecord]
@[simp] theorem State.setRecord_storageNet (s : State) (p : Port) (r : PortRecord) : (s.setRecord p r).storageNet = s.storageNet := by simp only [State.setRecord]
@[simp] theorem State.setRecord_excursions (s : State) (p : Port) (r : PortRecord) : (s.setRecord p r).excursions = s.excursions := by simp only [State.setRecord]
@[simp] theorem State.setRecord_windowConflicts (s : State) (p : Port) (r : PortRecord) : (s.setRecord p r).windowConflicts = s.windowConflicts := by simp only [State.setRecord]
@[simp] theorem State.setRecord_ring (s : State) (p : Port) (r : PortRecord) : (s.setRecord p r).ring = s.ring := by simp only [State.setRecord]
@[simp] theorem State.setRecord_windowBase (s : State) (p : Port) (r : PortRecord) : (s.setRecord p r).windowBase = s.windowBase := by simp only [State.setRecord]
@[simp] theorem State.setRecord_sinceBase (s : State) (p : Port) (r : PortRecord) : (s.setRecord p r).sinceBase = s.sinceBase := by simp only [State.setRecord]
@[simp] theorem State.setRecord_reseedPending (s : State) (p : Port) (r : PortRecord) : (s.setRecord p r).reseedPending = s.reseedPending := by simp only [State.setRecord]
@[simp] theorem State.setRecord_complianceLatched (s : State) (p : Port) (r : PortRecord) : (s.setRecord p r).complianceLatched = s.complianceLatched := by simp only [State.setRecord]
@[simp] theorem State.setRecord_complianceEpisodes (s : State) (p : Port) (r : PortRecord) : (s.setRecord p r).complianceEpisodes = s.complianceEpisodes := by simp only [State.setRecord]
@[simp] theorem State.setRecord_defaultProfile (s : State) (p : Port) (r : PortRecord) : (s.setRecord p r).defaultProfile = s.defaultProfile := by simp only [State.setRecord]
@[simp] theorem State.setRecord_entries (s : State) (p : Port) (r : PortRecord) : (s.setRecord p r).entries = s.entries := by simp only [State.setRecord]
@[simp] theorem State.setRecord_scanTimer (s : State) (p : Port) (r : PortRecord) : (s.setRecord p r).scanTimer = s.scanTimer := by simp only [State.setRecord]
@[simp] theorem State.setRecord_scan (s : State) (p : Port) (r : PortRecord) : (s.setRecord p r).scan = s.scan := by simp only [State.setRecord]
@[simp] theorem State.setRecord_channels (s : State) (p : Port) (r : PortRecord) : (s.setRecord p r).channels = s.channels := by simp only [State.setRecord]
@[simp] theorem State.setRecord_sweepStart (s : State) (p : Port) (r : PortRecord) : (s.setRecord p r).sweepStart = s.sweepStart := by simp only [State.setRecord]
@[simp] theorem State.setRecord_sweepLfsr (s : State) (p : Port) (r : PortRecord) : (s.setRecord p r).sweepLfsr = s.sweepLfsr := by simp only [State.setRecord]
@[simp] theorem State.setRecord_sweepOrder (s : State) (p : Port) (r : PortRecord) : (s.setRecord p r).sweepOrder = s.sweepOrder := by simp only [State.setRecord]
@[simp] theorem State.setRecord_links (s : State) (p : Port) (r : PortRecord) : (s.setRecord p r).links = s.links := by simp only [State.setRecord]
@[simp] theorem State.setRecord_openChoices (s : State) (p : Port) (r : PortRecord) : (s.setRecord p r).openChoices = s.openChoices := by simp only [State.setRecord]
@[simp] theorem State.setRecord_pending (s : State) (p : Port) (r : PortRecord) : (s.setRecord p r).pending = s.pending := by simp only [State.setRecord]
@[simp] theorem State.setRecord_config (s : State) (p : Port) (r : PortRecord) (q : Port) : (s.setRecord p r).config q = s.config q := by simp only [State.setRecord, State.config]
@[simp] theorem State.setRecord_link (s : State) (p : Port) (r : PortRecord) (q : Port) : (s.setRecord p r).link q = s.link q := by simp only [State.setRecord, State.link]
@[simp] theorem State.setRecord_channel (s : State) (p : Port) (r : PortRecord) (q : ChannelIndex) : (s.setRecord p r).channel q = s.channel q := by simp only [State.setRecord, State.channel]

/-! ### `State.setLink` -/

@[simp] theorem State.setLink_mode (s : State) (p : Port) (l : LinkPort) : (s.setLink p l).mode = s.mode := by simp only [State.setLink]
@[simp] theorem State.setLink_restartCause (s : State) (p : Port) (l : LinkPort) : (s.setLink p l).restartCause = s.restartCause := by simp only [State.setLink]
@[simp] theorem State.setLink_checkResult (s : State) (p : Port) (l : LinkPort) : (s.setLink p l).checkResult = s.checkResult := by simp only [State.setLink]
@[simp] theorem State.setLink_site (s : State) (p : Port) (l : LinkPort) : (s.setLink p l).site = s.site := by simp only [State.setLink]
@[simp] theorem State.setLink_portTable (s : State) (p : Port) (l : LinkPort) : (s.setLink p l).portTable = s.portTable := by simp only [State.setLink]
@[simp] theorem State.setLink_restartPending (s : State) (p : Port) (l : LinkPort) : (s.setLink p l).restartPending = s.restartPending := by simp only [State.setLink]
@[simp] theorem State.setLink_holdingEntries (s : State) (p : Port) (l : LinkPort) : (s.setLink p l).holdingEntries = s.holdingEntries := by simp only [State.setLink]
@[simp] theorem State.setLink_readProgress (s : State) (p : Port) (l : LinkPort) : (s.setLink p l).readProgress = s.readProgress := by simp only [State.setLink]
@[simp] theorem State.setLink_frameTimer (s : State) (p : Port) (l : LinkPort) : (s.setLink p l).frameTimer = s.frameTimer := by simp only [State.setLink]
@[simp] theorem State.setLink_frameNumber (s : State) (p : Port) (l : LinkPort) : (s.setLink p l).frameNumber = s.frameNumber := by simp only [State.setLink]
@[simp] theorem State.setLink_primingCounter (s : State) (p : Port) (l : LinkPort) : (s.setLink p l).primingCounter = s.primingCounter := by simp only [State.setLink]
@[simp] theorem State.setLink_reference (s : State) (p : Port) (l : LinkPort) : (s.setLink p l).reference = s.reference := by simp only [State.setLink]
@[simp] theorem State.setLink_target (s : State) (p : Port) (l : LinkPort) : (s.setLink p l).target = s.target := by simp only [State.setLink]
@[simp] theorem State.setLink_storageNet (s : State) (p : Port) (l : LinkPort) : (s.setLink p l).storageNet = s.storageNet := by simp only [State.setLink]
@[simp] theorem State.setLink_excursions (s : State) (p : Port) (l : LinkPort) : (s.setLink p l).excursions = s.excursions := by simp only [State.setLink]
@[simp] theorem State.setLink_windowConflicts (s : State) (p : Port) (l : LinkPort) : (s.setLink p l).windowConflicts = s.windowConflicts := by simp only [State.setLink]
@[simp] theorem State.setLink_ring (s : State) (p : Port) (l : LinkPort) : (s.setLink p l).ring = s.ring := by simp only [State.setLink]
@[simp] theorem State.setLink_windowBase (s : State) (p : Port) (l : LinkPort) : (s.setLink p l).windowBase = s.windowBase := by simp only [State.setLink]
@[simp] theorem State.setLink_sinceBase (s : State) (p : Port) (l : LinkPort) : (s.setLink p l).sinceBase = s.sinceBase := by simp only [State.setLink]
@[simp] theorem State.setLink_reseedPending (s : State) (p : Port) (l : LinkPort) : (s.setLink p l).reseedPending = s.reseedPending := by simp only [State.setLink]
@[simp] theorem State.setLink_complianceLatched (s : State) (p : Port) (l : LinkPort) : (s.setLink p l).complianceLatched = s.complianceLatched := by simp only [State.setLink]
@[simp] theorem State.setLink_complianceEpisodes (s : State) (p : Port) (l : LinkPort) : (s.setLink p l).complianceEpisodes = s.complianceEpisodes := by simp only [State.setLink]
@[simp] theorem State.setLink_defaultProfile (s : State) (p : Port) (l : LinkPort) : (s.setLink p l).defaultProfile = s.defaultProfile := by simp only [State.setLink]
@[simp] theorem State.setLink_entries (s : State) (p : Port) (l : LinkPort) : (s.setLink p l).entries = s.entries := by simp only [State.setLink]
@[simp] theorem State.setLink_scanTimer (s : State) (p : Port) (l : LinkPort) : (s.setLink p l).scanTimer = s.scanTimer := by simp only [State.setLink]
@[simp] theorem State.setLink_scan (s : State) (p : Port) (l : LinkPort) : (s.setLink p l).scan = s.scan := by simp only [State.setLink]
@[simp] theorem State.setLink_channels (s : State) (p : Port) (l : LinkPort) : (s.setLink p l).channels = s.channels := by simp only [State.setLink]
@[simp] theorem State.setLink_sweepStart (s : State) (p : Port) (l : LinkPort) : (s.setLink p l).sweepStart = s.sweepStart := by simp only [State.setLink]
@[simp] theorem State.setLink_sweepLfsr (s : State) (p : Port) (l : LinkPort) : (s.setLink p l).sweepLfsr = s.sweepLfsr := by simp only [State.setLink]
@[simp] theorem State.setLink_sweepOrder (s : State) (p : Port) (l : LinkPort) : (s.setLink p l).sweepOrder = s.sweepOrder := by simp only [State.setLink]
@[simp] theorem State.setLink_records (s : State) (p : Port) (l : LinkPort) : (s.setLink p l).records = s.records := by simp only [State.setLink]
@[simp] theorem State.setLink_openChoices (s : State) (p : Port) (l : LinkPort) : (s.setLink p l).openChoices = s.openChoices := by simp only [State.setLink]
@[simp] theorem State.setLink_pending (s : State) (p : Port) (l : LinkPort) : (s.setLink p l).pending = s.pending := by simp only [State.setLink]
@[simp] theorem State.setLink_config (s : State) (p : Port) (l : LinkPort) (q : Port) : (s.setLink p l).config q = s.config q := by simp only [State.setLink, State.config]
@[simp] theorem State.setLink_record (s : State) (p : Port) (l : LinkPort) (q : Port) : (s.setLink p l).record q = s.record q := by simp only [State.setLink, State.record]
@[simp] theorem State.setLink_channel (s : State) (p : Port) (l : LinkPort) (q : ChannelIndex) : (s.setLink p l).channel q = s.channel q := by simp only [State.setLink, State.channel]

/-! ### `State.setChannel` -/

@[simp] theorem State.setChannel_mode (s : State) (c : ChannelIndex) (ch : Channel) : (s.setChannel c ch).mode = s.mode := by simp only [State.setChannel]
@[simp] theorem State.setChannel_restartCause (s : State) (c : ChannelIndex) (ch : Channel) : (s.setChannel c ch).restartCause = s.restartCause := by simp only [State.setChannel]
@[simp] theorem State.setChannel_checkResult (s : State) (c : ChannelIndex) (ch : Channel) : (s.setChannel c ch).checkResult = s.checkResult := by simp only [State.setChannel]
@[simp] theorem State.setChannel_site (s : State) (c : ChannelIndex) (ch : Channel) : (s.setChannel c ch).site = s.site := by simp only [State.setChannel]
@[simp] theorem State.setChannel_portTable (s : State) (c : ChannelIndex) (ch : Channel) : (s.setChannel c ch).portTable = s.portTable := by simp only [State.setChannel]
@[simp] theorem State.setChannel_restartPending (s : State) (c : ChannelIndex) (ch : Channel) : (s.setChannel c ch).restartPending = s.restartPending := by simp only [State.setChannel]
@[simp] theorem State.setChannel_holdingEntries (s : State) (c : ChannelIndex) (ch : Channel) : (s.setChannel c ch).holdingEntries = s.holdingEntries := by simp only [State.setChannel]
@[simp] theorem State.setChannel_readProgress (s : State) (c : ChannelIndex) (ch : Channel) : (s.setChannel c ch).readProgress = s.readProgress := by simp only [State.setChannel]
@[simp] theorem State.setChannel_frameTimer (s : State) (c : ChannelIndex) (ch : Channel) : (s.setChannel c ch).frameTimer = s.frameTimer := by simp only [State.setChannel]
@[simp] theorem State.setChannel_frameNumber (s : State) (c : ChannelIndex) (ch : Channel) : (s.setChannel c ch).frameNumber = s.frameNumber := by simp only [State.setChannel]
@[simp] theorem State.setChannel_primingCounter (s : State) (c : ChannelIndex) (ch : Channel) : (s.setChannel c ch).primingCounter = s.primingCounter := by simp only [State.setChannel]
@[simp] theorem State.setChannel_reference (s : State) (c : ChannelIndex) (ch : Channel) : (s.setChannel c ch).reference = s.reference := by simp only [State.setChannel]
@[simp] theorem State.setChannel_target (s : State) (c : ChannelIndex) (ch : Channel) : (s.setChannel c ch).target = s.target := by simp only [State.setChannel]
@[simp] theorem State.setChannel_storageNet (s : State) (c : ChannelIndex) (ch : Channel) : (s.setChannel c ch).storageNet = s.storageNet := by simp only [State.setChannel]
@[simp] theorem State.setChannel_excursions (s : State) (c : ChannelIndex) (ch : Channel) : (s.setChannel c ch).excursions = s.excursions := by simp only [State.setChannel]
@[simp] theorem State.setChannel_windowConflicts (s : State) (c : ChannelIndex) (ch : Channel) : (s.setChannel c ch).windowConflicts = s.windowConflicts := by simp only [State.setChannel]
@[simp] theorem State.setChannel_ring (s : State) (c : ChannelIndex) (ch : Channel) : (s.setChannel c ch).ring = s.ring := by simp only [State.setChannel]
@[simp] theorem State.setChannel_windowBase (s : State) (c : ChannelIndex) (ch : Channel) : (s.setChannel c ch).windowBase = s.windowBase := by simp only [State.setChannel]
@[simp] theorem State.setChannel_sinceBase (s : State) (c : ChannelIndex) (ch : Channel) : (s.setChannel c ch).sinceBase = s.sinceBase := by simp only [State.setChannel]
@[simp] theorem State.setChannel_reseedPending (s : State) (c : ChannelIndex) (ch : Channel) : (s.setChannel c ch).reseedPending = s.reseedPending := by simp only [State.setChannel]
@[simp] theorem State.setChannel_complianceLatched (s : State) (c : ChannelIndex) (ch : Channel) : (s.setChannel c ch).complianceLatched = s.complianceLatched := by simp only [State.setChannel]
@[simp] theorem State.setChannel_complianceEpisodes (s : State) (c : ChannelIndex) (ch : Channel) : (s.setChannel c ch).complianceEpisodes = s.complianceEpisodes := by simp only [State.setChannel]
@[simp] theorem State.setChannel_defaultProfile (s : State) (c : ChannelIndex) (ch : Channel) : (s.setChannel c ch).defaultProfile = s.defaultProfile := by simp only [State.setChannel]
@[simp] theorem State.setChannel_entries (s : State) (c : ChannelIndex) (ch : Channel) : (s.setChannel c ch).entries = s.entries := by simp only [State.setChannel]
@[simp] theorem State.setChannel_scanTimer (s : State) (c : ChannelIndex) (ch : Channel) : (s.setChannel c ch).scanTimer = s.scanTimer := by simp only [State.setChannel]
@[simp] theorem State.setChannel_scan (s : State) (c : ChannelIndex) (ch : Channel) : (s.setChannel c ch).scan = s.scan := by simp only [State.setChannel]
@[simp] theorem State.setChannel_sweepStart (s : State) (c : ChannelIndex) (ch : Channel) : (s.setChannel c ch).sweepStart = s.sweepStart := by simp only [State.setChannel]
@[simp] theorem State.setChannel_sweepLfsr (s : State) (c : ChannelIndex) (ch : Channel) : (s.setChannel c ch).sweepLfsr = s.sweepLfsr := by simp only [State.setChannel]
@[simp] theorem State.setChannel_sweepOrder (s : State) (c : ChannelIndex) (ch : Channel) : (s.setChannel c ch).sweepOrder = s.sweepOrder := by simp only [State.setChannel]
@[simp] theorem State.setChannel_records (s : State) (c : ChannelIndex) (ch : Channel) : (s.setChannel c ch).records = s.records := by simp only [State.setChannel]
@[simp] theorem State.setChannel_links (s : State) (c : ChannelIndex) (ch : Channel) : (s.setChannel c ch).links = s.links := by simp only [State.setChannel]
@[simp] theorem State.setChannel_openChoices (s : State) (c : ChannelIndex) (ch : Channel) : (s.setChannel c ch).openChoices = s.openChoices := by simp only [State.setChannel]
@[simp] theorem State.setChannel_pending (s : State) (c : ChannelIndex) (ch : Channel) : (s.setChannel c ch).pending = s.pending := by simp only [State.setChannel]
@[simp] theorem State.setChannel_config (s : State) (c : ChannelIndex) (ch : Channel) (q : Port) : (s.setChannel c ch).config q = s.config q := by simp only [State.setChannel, State.config]
@[simp] theorem State.setChannel_record (s : State) (c : ChannelIndex) (ch : Channel) (q : Port) : (s.setChannel c ch).record q = s.record q := by simp only [State.setChannel, State.record]
@[simp] theorem State.setChannel_link (s : State) (c : ChannelIndex) (ch : Channel) (q : Port) : (s.setChannel c ch).link q = s.link q := by simp only [State.setChannel, State.link]

/-! ### `State.mapRecords` -/

@[simp] theorem State.mapRecords_mode (s : State) (f : Port → PortRecord → PortRecord) : (s.mapRecords f).mode = s.mode := by simp only [State.mapRecords]
@[simp] theorem State.mapRecords_restartCause (s : State) (f : Port → PortRecord → PortRecord) : (s.mapRecords f).restartCause = s.restartCause := by simp only [State.mapRecords]
@[simp] theorem State.mapRecords_checkResult (s : State) (f : Port → PortRecord → PortRecord) : (s.mapRecords f).checkResult = s.checkResult := by simp only [State.mapRecords]
@[simp] theorem State.mapRecords_site (s : State) (f : Port → PortRecord → PortRecord) : (s.mapRecords f).site = s.site := by simp only [State.mapRecords]
@[simp] theorem State.mapRecords_portTable (s : State) (f : Port → PortRecord → PortRecord) : (s.mapRecords f).portTable = s.portTable := by simp only [State.mapRecords]
@[simp] theorem State.mapRecords_restartPending (s : State) (f : Port → PortRecord → PortRecord) : (s.mapRecords f).restartPending = s.restartPending := by simp only [State.mapRecords]
@[simp] theorem State.mapRecords_holdingEntries (s : State) (f : Port → PortRecord → PortRecord) : (s.mapRecords f).holdingEntries = s.holdingEntries := by simp only [State.mapRecords]
@[simp] theorem State.mapRecords_readProgress (s : State) (f : Port → PortRecord → PortRecord) : (s.mapRecords f).readProgress = s.readProgress := by simp only [State.mapRecords]
@[simp] theorem State.mapRecords_frameTimer (s : State) (f : Port → PortRecord → PortRecord) : (s.mapRecords f).frameTimer = s.frameTimer := by simp only [State.mapRecords]
@[simp] theorem State.mapRecords_frameNumber (s : State) (f : Port → PortRecord → PortRecord) : (s.mapRecords f).frameNumber = s.frameNumber := by simp only [State.mapRecords]
@[simp] theorem State.mapRecords_primingCounter (s : State) (f : Port → PortRecord → PortRecord) : (s.mapRecords f).primingCounter = s.primingCounter := by simp only [State.mapRecords]
@[simp] theorem State.mapRecords_reference (s : State) (f : Port → PortRecord → PortRecord) : (s.mapRecords f).reference = s.reference := by simp only [State.mapRecords]
@[simp] theorem State.mapRecords_target (s : State) (f : Port → PortRecord → PortRecord) : (s.mapRecords f).target = s.target := by simp only [State.mapRecords]
@[simp] theorem State.mapRecords_storageNet (s : State) (f : Port → PortRecord → PortRecord) : (s.mapRecords f).storageNet = s.storageNet := by simp only [State.mapRecords]
@[simp] theorem State.mapRecords_excursions (s : State) (f : Port → PortRecord → PortRecord) : (s.mapRecords f).excursions = s.excursions := by simp only [State.mapRecords]
@[simp] theorem State.mapRecords_windowConflicts (s : State) (f : Port → PortRecord → PortRecord) : (s.mapRecords f).windowConflicts = s.windowConflicts := by simp only [State.mapRecords]
@[simp] theorem State.mapRecords_ring (s : State) (f : Port → PortRecord → PortRecord) : (s.mapRecords f).ring = s.ring := by simp only [State.mapRecords]
@[simp] theorem State.mapRecords_windowBase (s : State) (f : Port → PortRecord → PortRecord) : (s.mapRecords f).windowBase = s.windowBase := by simp only [State.mapRecords]
@[simp] theorem State.mapRecords_sinceBase (s : State) (f : Port → PortRecord → PortRecord) : (s.mapRecords f).sinceBase = s.sinceBase := by simp only [State.mapRecords]
@[simp] theorem State.mapRecords_reseedPending (s : State) (f : Port → PortRecord → PortRecord) : (s.mapRecords f).reseedPending = s.reseedPending := by simp only [State.mapRecords]
@[simp] theorem State.mapRecords_complianceLatched (s : State) (f : Port → PortRecord → PortRecord) : (s.mapRecords f).complianceLatched = s.complianceLatched := by simp only [State.mapRecords]
@[simp] theorem State.mapRecords_complianceEpisodes (s : State) (f : Port → PortRecord → PortRecord) : (s.mapRecords f).complianceEpisodes = s.complianceEpisodes := by simp only [State.mapRecords]
@[simp] theorem State.mapRecords_defaultProfile (s : State) (f : Port → PortRecord → PortRecord) : (s.mapRecords f).defaultProfile = s.defaultProfile := by simp only [State.mapRecords]
@[simp] theorem State.mapRecords_entries (s : State) (f : Port → PortRecord → PortRecord) : (s.mapRecords f).entries = s.entries := by simp only [State.mapRecords]
@[simp] theorem State.mapRecords_scanTimer (s : State) (f : Port → PortRecord → PortRecord) : (s.mapRecords f).scanTimer = s.scanTimer := by simp only [State.mapRecords]
@[simp] theorem State.mapRecords_scan (s : State) (f : Port → PortRecord → PortRecord) : (s.mapRecords f).scan = s.scan := by simp only [State.mapRecords]
@[simp] theorem State.mapRecords_channels (s : State) (f : Port → PortRecord → PortRecord) : (s.mapRecords f).channels = s.channels := by simp only [State.mapRecords]
@[simp] theorem State.mapRecords_sweepStart (s : State) (f : Port → PortRecord → PortRecord) : (s.mapRecords f).sweepStart = s.sweepStart := by simp only [State.mapRecords]
@[simp] theorem State.mapRecords_sweepLfsr (s : State) (f : Port → PortRecord → PortRecord) : (s.mapRecords f).sweepLfsr = s.sweepLfsr := by simp only [State.mapRecords]
@[simp] theorem State.mapRecords_sweepOrder (s : State) (f : Port → PortRecord → PortRecord) : (s.mapRecords f).sweepOrder = s.sweepOrder := by simp only [State.mapRecords]
@[simp] theorem State.mapRecords_links (s : State) (f : Port → PortRecord → PortRecord) : (s.mapRecords f).links = s.links := by simp only [State.mapRecords]
@[simp] theorem State.mapRecords_openChoices (s : State) (f : Port → PortRecord → PortRecord) : (s.mapRecords f).openChoices = s.openChoices := by simp only [State.mapRecords]
@[simp] theorem State.mapRecords_pending (s : State) (f : Port → PortRecord → PortRecord) : (s.mapRecords f).pending = s.pending := by simp only [State.mapRecords]
@[simp] theorem State.mapRecords_config (s : State) (f : Port → PortRecord → PortRecord) (q : Port) : (s.mapRecords f).config q = s.config q := by simp only [State.mapRecords, State.config]
@[simp] theorem State.mapRecords_link (s : State) (f : Port → PortRecord → PortRecord) (q : Port) : (s.mapRecords f).link q = s.link q := by simp only [State.mapRecords, State.link]
@[simp] theorem State.mapRecords_channel (s : State) (f : Port → PortRecord → PortRecord) (q : ChannelIndex) : (s.mapRecords f).channel q = s.channel q := by simp only [State.mapRecords, State.channel]

/-! ### `State.mapLinks` -/

@[simp] theorem State.mapLinks_mode (s : State) (f : Port → LinkPort → LinkPort) : (s.mapLinks f).mode = s.mode := by simp only [State.mapLinks]
@[simp] theorem State.mapLinks_restartCause (s : State) (f : Port → LinkPort → LinkPort) : (s.mapLinks f).restartCause = s.restartCause := by simp only [State.mapLinks]
@[simp] theorem State.mapLinks_checkResult (s : State) (f : Port → LinkPort → LinkPort) : (s.mapLinks f).checkResult = s.checkResult := by simp only [State.mapLinks]
@[simp] theorem State.mapLinks_site (s : State) (f : Port → LinkPort → LinkPort) : (s.mapLinks f).site = s.site := by simp only [State.mapLinks]
@[simp] theorem State.mapLinks_portTable (s : State) (f : Port → LinkPort → LinkPort) : (s.mapLinks f).portTable = s.portTable := by simp only [State.mapLinks]
@[simp] theorem State.mapLinks_restartPending (s : State) (f : Port → LinkPort → LinkPort) : (s.mapLinks f).restartPending = s.restartPending := by simp only [State.mapLinks]
@[simp] theorem State.mapLinks_holdingEntries (s : State) (f : Port → LinkPort → LinkPort) : (s.mapLinks f).holdingEntries = s.holdingEntries := by simp only [State.mapLinks]
@[simp] theorem State.mapLinks_readProgress (s : State) (f : Port → LinkPort → LinkPort) : (s.mapLinks f).readProgress = s.readProgress := by simp only [State.mapLinks]
@[simp] theorem State.mapLinks_frameTimer (s : State) (f : Port → LinkPort → LinkPort) : (s.mapLinks f).frameTimer = s.frameTimer := by simp only [State.mapLinks]
@[simp] theorem State.mapLinks_frameNumber (s : State) (f : Port → LinkPort → LinkPort) : (s.mapLinks f).frameNumber = s.frameNumber := by simp only [State.mapLinks]
@[simp] theorem State.mapLinks_primingCounter (s : State) (f : Port → LinkPort → LinkPort) : (s.mapLinks f).primingCounter = s.primingCounter := by simp only [State.mapLinks]
@[simp] theorem State.mapLinks_reference (s : State) (f : Port → LinkPort → LinkPort) : (s.mapLinks f).reference = s.reference := by simp only [State.mapLinks]
@[simp] theorem State.mapLinks_target (s : State) (f : Port → LinkPort → LinkPort) : (s.mapLinks f).target = s.target := by simp only [State.mapLinks]
@[simp] theorem State.mapLinks_storageNet (s : State) (f : Port → LinkPort → LinkPort) : (s.mapLinks f).storageNet = s.storageNet := by simp only [State.mapLinks]
@[simp] theorem State.mapLinks_excursions (s : State) (f : Port → LinkPort → LinkPort) : (s.mapLinks f).excursions = s.excursions := by simp only [State.mapLinks]
@[simp] theorem State.mapLinks_windowConflicts (s : State) (f : Port → LinkPort → LinkPort) : (s.mapLinks f).windowConflicts = s.windowConflicts := by simp only [State.mapLinks]
@[simp] theorem State.mapLinks_ring (s : State) (f : Port → LinkPort → LinkPort) : (s.mapLinks f).ring = s.ring := by simp only [State.mapLinks]
@[simp] theorem State.mapLinks_windowBase (s : State) (f : Port → LinkPort → LinkPort) : (s.mapLinks f).windowBase = s.windowBase := by simp only [State.mapLinks]
@[simp] theorem State.mapLinks_sinceBase (s : State) (f : Port → LinkPort → LinkPort) : (s.mapLinks f).sinceBase = s.sinceBase := by simp only [State.mapLinks]
@[simp] theorem State.mapLinks_reseedPending (s : State) (f : Port → LinkPort → LinkPort) : (s.mapLinks f).reseedPending = s.reseedPending := by simp only [State.mapLinks]
@[simp] theorem State.mapLinks_complianceLatched (s : State) (f : Port → LinkPort → LinkPort) : (s.mapLinks f).complianceLatched = s.complianceLatched := by simp only [State.mapLinks]
@[simp] theorem State.mapLinks_complianceEpisodes (s : State) (f : Port → LinkPort → LinkPort) : (s.mapLinks f).complianceEpisodes = s.complianceEpisodes := by simp only [State.mapLinks]
@[simp] theorem State.mapLinks_defaultProfile (s : State) (f : Port → LinkPort → LinkPort) : (s.mapLinks f).defaultProfile = s.defaultProfile := by simp only [State.mapLinks]
@[simp] theorem State.mapLinks_entries (s : State) (f : Port → LinkPort → LinkPort) : (s.mapLinks f).entries = s.entries := by simp only [State.mapLinks]
@[simp] theorem State.mapLinks_scanTimer (s : State) (f : Port → LinkPort → LinkPort) : (s.mapLinks f).scanTimer = s.scanTimer := by simp only [State.mapLinks]
@[simp] theorem State.mapLinks_scan (s : State) (f : Port → LinkPort → LinkPort) : (s.mapLinks f).scan = s.scan := by simp only [State.mapLinks]
@[simp] theorem State.mapLinks_channels (s : State) (f : Port → LinkPort → LinkPort) : (s.mapLinks f).channels = s.channels := by simp only [State.mapLinks]
@[simp] theorem State.mapLinks_sweepStart (s : State) (f : Port → LinkPort → LinkPort) : (s.mapLinks f).sweepStart = s.sweepStart := by simp only [State.mapLinks]
@[simp] theorem State.mapLinks_sweepLfsr (s : State) (f : Port → LinkPort → LinkPort) : (s.mapLinks f).sweepLfsr = s.sweepLfsr := by simp only [State.mapLinks]
@[simp] theorem State.mapLinks_sweepOrder (s : State) (f : Port → LinkPort → LinkPort) : (s.mapLinks f).sweepOrder = s.sweepOrder := by simp only [State.mapLinks]
@[simp] theorem State.mapLinks_records (s : State) (f : Port → LinkPort → LinkPort) : (s.mapLinks f).records = s.records := by simp only [State.mapLinks]
@[simp] theorem State.mapLinks_openChoices (s : State) (f : Port → LinkPort → LinkPort) : (s.mapLinks f).openChoices = s.openChoices := by simp only [State.mapLinks]
@[simp] theorem State.mapLinks_pending (s : State) (f : Port → LinkPort → LinkPort) : (s.mapLinks f).pending = s.pending := by simp only [State.mapLinks]
@[simp] theorem State.mapLinks_config (s : State) (f : Port → LinkPort → LinkPort) (q : Port) : (s.mapLinks f).config q = s.config q := by simp only [State.mapLinks, State.config]
@[simp] theorem State.mapLinks_record (s : State) (f : Port → LinkPort → LinkPort) (q : Port) : (s.mapLinks f).record q = s.record q := by simp only [State.mapLinks, State.record]
@[simp] theorem State.mapLinks_channel (s : State) (f : Port → LinkPort → LinkPort) (q : ChannelIndex) : (s.mapLinks f).channel q = s.channel q := by simp only [State.mapLinks, State.channel]

/-! ### `State.mapChannels` -/

@[simp] theorem State.mapChannels_mode (s : State) (f : ChannelIndex → Channel → Channel) : (s.mapChannels f).mode = s.mode := by simp only [State.mapChannels]
@[simp] theorem State.mapChannels_restartCause (s : State) (f : ChannelIndex → Channel → Channel) : (s.mapChannels f).restartCause = s.restartCause := by simp only [State.mapChannels]
@[simp] theorem State.mapChannels_checkResult (s : State) (f : ChannelIndex → Channel → Channel) : (s.mapChannels f).checkResult = s.checkResult := by simp only [State.mapChannels]
@[simp] theorem State.mapChannels_site (s : State) (f : ChannelIndex → Channel → Channel) : (s.mapChannels f).site = s.site := by simp only [State.mapChannels]
@[simp] theorem State.mapChannels_portTable (s : State) (f : ChannelIndex → Channel → Channel) : (s.mapChannels f).portTable = s.portTable := by simp only [State.mapChannels]
@[simp] theorem State.mapChannels_restartPending (s : State) (f : ChannelIndex → Channel → Channel) : (s.mapChannels f).restartPending = s.restartPending := by simp only [State.mapChannels]
@[simp] theorem State.mapChannels_holdingEntries (s : State) (f : ChannelIndex → Channel → Channel) : (s.mapChannels f).holdingEntries = s.holdingEntries := by simp only [State.mapChannels]
@[simp] theorem State.mapChannels_readProgress (s : State) (f : ChannelIndex → Channel → Channel) : (s.mapChannels f).readProgress = s.readProgress := by simp only [State.mapChannels]
@[simp] theorem State.mapChannels_frameTimer (s : State) (f : ChannelIndex → Channel → Channel) : (s.mapChannels f).frameTimer = s.frameTimer := by simp only [State.mapChannels]
@[simp] theorem State.mapChannels_frameNumber (s : State) (f : ChannelIndex → Channel → Channel) : (s.mapChannels f).frameNumber = s.frameNumber := by simp only [State.mapChannels]
@[simp] theorem State.mapChannels_primingCounter (s : State) (f : ChannelIndex → Channel → Channel) : (s.mapChannels f).primingCounter = s.primingCounter := by simp only [State.mapChannels]
@[simp] theorem State.mapChannels_reference (s : State) (f : ChannelIndex → Channel → Channel) : (s.mapChannels f).reference = s.reference := by simp only [State.mapChannels]
@[simp] theorem State.mapChannels_target (s : State) (f : ChannelIndex → Channel → Channel) : (s.mapChannels f).target = s.target := by simp only [State.mapChannels]
@[simp] theorem State.mapChannels_storageNet (s : State) (f : ChannelIndex → Channel → Channel) : (s.mapChannels f).storageNet = s.storageNet := by simp only [State.mapChannels]
@[simp] theorem State.mapChannels_excursions (s : State) (f : ChannelIndex → Channel → Channel) : (s.mapChannels f).excursions = s.excursions := by simp only [State.mapChannels]
@[simp] theorem State.mapChannels_windowConflicts (s : State) (f : ChannelIndex → Channel → Channel) : (s.mapChannels f).windowConflicts = s.windowConflicts := by simp only [State.mapChannels]
@[simp] theorem State.mapChannels_ring (s : State) (f : ChannelIndex → Channel → Channel) : (s.mapChannels f).ring = s.ring := by simp only [State.mapChannels]
@[simp] theorem State.mapChannels_windowBase (s : State) (f : ChannelIndex → Channel → Channel) : (s.mapChannels f).windowBase = s.windowBase := by simp only [State.mapChannels]
@[simp] theorem State.mapChannels_sinceBase (s : State) (f : ChannelIndex → Channel → Channel) : (s.mapChannels f).sinceBase = s.sinceBase := by simp only [State.mapChannels]
@[simp] theorem State.mapChannels_reseedPending (s : State) (f : ChannelIndex → Channel → Channel) : (s.mapChannels f).reseedPending = s.reseedPending := by simp only [State.mapChannels]
@[simp] theorem State.mapChannels_complianceLatched (s : State) (f : ChannelIndex → Channel → Channel) : (s.mapChannels f).complianceLatched = s.complianceLatched := by simp only [State.mapChannels]
@[simp] theorem State.mapChannels_complianceEpisodes (s : State) (f : ChannelIndex → Channel → Channel) : (s.mapChannels f).complianceEpisodes = s.complianceEpisodes := by simp only [State.mapChannels]
@[simp] theorem State.mapChannels_defaultProfile (s : State) (f : ChannelIndex → Channel → Channel) : (s.mapChannels f).defaultProfile = s.defaultProfile := by simp only [State.mapChannels]
@[simp] theorem State.mapChannels_entries (s : State) (f : ChannelIndex → Channel → Channel) : (s.mapChannels f).entries = s.entries := by simp only [State.mapChannels]
@[simp] theorem State.mapChannels_scanTimer (s : State) (f : ChannelIndex → Channel → Channel) : (s.mapChannels f).scanTimer = s.scanTimer := by simp only [State.mapChannels]
@[simp] theorem State.mapChannels_scan (s : State) (f : ChannelIndex → Channel → Channel) : (s.mapChannels f).scan = s.scan := by simp only [State.mapChannels]
@[simp] theorem State.mapChannels_sweepStart (s : State) (f : ChannelIndex → Channel → Channel) : (s.mapChannels f).sweepStart = s.sweepStart := by simp only [State.mapChannels]
@[simp] theorem State.mapChannels_sweepLfsr (s : State) (f : ChannelIndex → Channel → Channel) : (s.mapChannels f).sweepLfsr = s.sweepLfsr := by simp only [State.mapChannels]
@[simp] theorem State.mapChannels_sweepOrder (s : State) (f : ChannelIndex → Channel → Channel) : (s.mapChannels f).sweepOrder = s.sweepOrder := by simp only [State.mapChannels]
@[simp] theorem State.mapChannels_records (s : State) (f : ChannelIndex → Channel → Channel) : (s.mapChannels f).records = s.records := by simp only [State.mapChannels]
@[simp] theorem State.mapChannels_links (s : State) (f : ChannelIndex → Channel → Channel) : (s.mapChannels f).links = s.links := by simp only [State.mapChannels]
@[simp] theorem State.mapChannels_openChoices (s : State) (f : ChannelIndex → Channel → Channel) : (s.mapChannels f).openChoices = s.openChoices := by simp only [State.mapChannels]
@[simp] theorem State.mapChannels_pending (s : State) (f : ChannelIndex → Channel → Channel) : (s.mapChannels f).pending = s.pending := by simp only [State.mapChannels]
@[simp] theorem State.mapChannels_config (s : State) (f : ChannelIndex → Channel → Channel) (q : Port) : (s.mapChannels f).config q = s.config q := by simp only [State.mapChannels, State.config]
@[simp] theorem State.mapChannels_record (s : State) (f : ChannelIndex → Channel → Channel) (q : Port) : (s.mapChannels f).record q = s.record q := by simp only [State.mapChannels, State.record]
@[simp] theorem State.mapChannels_link (s : State) (f : ChannelIndex → Channel → Channel) (q : Port) : (s.mapChannels f).link q = s.link q := by simp only [State.mapChannels, State.link]

/-! ### `State.enqueue` -/

@[simp] theorem State.enqueue_mode (s : State) (p : Port) (m : Message) : (s.enqueue p m).mode = s.mode := by simp [State.enqueue]
@[simp] theorem State.enqueue_restartCause (s : State) (p : Port) (m : Message) : (s.enqueue p m).restartCause = s.restartCause := by simp [State.enqueue]
@[simp] theorem State.enqueue_checkResult (s : State) (p : Port) (m : Message) : (s.enqueue p m).checkResult = s.checkResult := by simp [State.enqueue]
@[simp] theorem State.enqueue_site (s : State) (p : Port) (m : Message) : (s.enqueue p m).site = s.site := by simp [State.enqueue]
@[simp] theorem State.enqueue_portTable (s : State) (p : Port) (m : Message) : (s.enqueue p m).portTable = s.portTable := by simp [State.enqueue]
@[simp] theorem State.enqueue_restartPending (s : State) (p : Port) (m : Message) : (s.enqueue p m).restartPending = s.restartPending := by simp [State.enqueue]
@[simp] theorem State.enqueue_holdingEntries (s : State) (p : Port) (m : Message) : (s.enqueue p m).holdingEntries = s.holdingEntries := by simp [State.enqueue]
@[simp] theorem State.enqueue_readProgress (s : State) (p : Port) (m : Message) : (s.enqueue p m).readProgress = s.readProgress := by simp [State.enqueue]
@[simp] theorem State.enqueue_frameTimer (s : State) (p : Port) (m : Message) : (s.enqueue p m).frameTimer = s.frameTimer := by simp [State.enqueue]
@[simp] theorem State.enqueue_frameNumber (s : State) (p : Port) (m : Message) : (s.enqueue p m).frameNumber = s.frameNumber := by simp [State.enqueue]
@[simp] theorem State.enqueue_primingCounter (s : State) (p : Port) (m : Message) : (s.enqueue p m).primingCounter = s.primingCounter := by simp [State.enqueue]
@[simp] theorem State.enqueue_reference (s : State) (p : Port) (m : Message) : (s.enqueue p m).reference = s.reference := by simp [State.enqueue]
@[simp] theorem State.enqueue_target (s : State) (p : Port) (m : Message) : (s.enqueue p m).target = s.target := by simp [State.enqueue]
@[simp] theorem State.enqueue_storageNet (s : State) (p : Port) (m : Message) : (s.enqueue p m).storageNet = s.storageNet := by simp [State.enqueue]
@[simp] theorem State.enqueue_excursions (s : State) (p : Port) (m : Message) : (s.enqueue p m).excursions = s.excursions := by simp [State.enqueue]
@[simp] theorem State.enqueue_windowConflicts (s : State) (p : Port) (m : Message) : (s.enqueue p m).windowConflicts = s.windowConflicts := by simp [State.enqueue]
@[simp] theorem State.enqueue_ring (s : State) (p : Port) (m : Message) : (s.enqueue p m).ring = s.ring := by simp [State.enqueue]
@[simp] theorem State.enqueue_windowBase (s : State) (p : Port) (m : Message) : (s.enqueue p m).windowBase = s.windowBase := by simp [State.enqueue]
@[simp] theorem State.enqueue_sinceBase (s : State) (p : Port) (m : Message) : (s.enqueue p m).sinceBase = s.sinceBase := by simp [State.enqueue]
@[simp] theorem State.enqueue_reseedPending (s : State) (p : Port) (m : Message) : (s.enqueue p m).reseedPending = s.reseedPending := by simp [State.enqueue]
@[simp] theorem State.enqueue_complianceLatched (s : State) (p : Port) (m : Message) : (s.enqueue p m).complianceLatched = s.complianceLatched := by simp [State.enqueue]
@[simp] theorem State.enqueue_complianceEpisodes (s : State) (p : Port) (m : Message) : (s.enqueue p m).complianceEpisodes = s.complianceEpisodes := by simp [State.enqueue]
@[simp] theorem State.enqueue_defaultProfile (s : State) (p : Port) (m : Message) : (s.enqueue p m).defaultProfile = s.defaultProfile := by simp [State.enqueue]
@[simp] theorem State.enqueue_entries (s : State) (p : Port) (m : Message) : (s.enqueue p m).entries = s.entries := by simp [State.enqueue]
@[simp] theorem State.enqueue_scanTimer (s : State) (p : Port) (m : Message) : (s.enqueue p m).scanTimer = s.scanTimer := by simp [State.enqueue]
@[simp] theorem State.enqueue_scan (s : State) (p : Port) (m : Message) : (s.enqueue p m).scan = s.scan := by simp [State.enqueue]
@[simp] theorem State.enqueue_channels (s : State) (p : Port) (m : Message) : (s.enqueue p m).channels = s.channels := by simp [State.enqueue]
@[simp] theorem State.enqueue_sweepStart (s : State) (p : Port) (m : Message) : (s.enqueue p m).sweepStart = s.sweepStart := by simp [State.enqueue]
@[simp] theorem State.enqueue_sweepLfsr (s : State) (p : Port) (m : Message) : (s.enqueue p m).sweepLfsr = s.sweepLfsr := by simp [State.enqueue]
@[simp] theorem State.enqueue_sweepOrder (s : State) (p : Port) (m : Message) : (s.enqueue p m).sweepOrder = s.sweepOrder := by simp [State.enqueue]
@[simp] theorem State.enqueue_records (s : State) (p : Port) (m : Message) : (s.enqueue p m).records = s.records := by simp [State.enqueue]
@[simp] theorem State.enqueue_openChoices (s : State) (p : Port) (m : Message) : (s.enqueue p m).openChoices = s.openChoices := by simp [State.enqueue]
@[simp] theorem State.enqueue_pending (s : State) (p : Port) (m : Message) : (s.enqueue p m).pending = s.pending := by simp [State.enqueue]
@[simp] theorem State.enqueue_config (s : State) (p : Port) (m : Message) (q : Port) : (s.enqueue p m).config q = s.config q := by simp [State.enqueue]
@[simp] theorem State.enqueue_record (s : State) (p : Port) (m : Message) (q : Port) : (s.enqueue p m).record q = s.record q := by simp [State.enqueue]
@[simp] theorem State.enqueue_channel (s : State) (p : Port) (m : Message) (q : ChannelIndex) : (s.enqueue p m).channel q = s.channel q := by simp [State.enqueue]

/-! ### `State.withdrawLimit` -/

@[simp] theorem State.withdrawLimit_mode (s : State) (p : Port) : (s.withdrawLimit p).mode = s.mode := by simp [State.withdrawLimit]
@[simp] theorem State.withdrawLimit_restartCause (s : State) (p : Port) : (s.withdrawLimit p).restartCause = s.restartCause := by simp [State.withdrawLimit]
@[simp] theorem State.withdrawLimit_checkResult (s : State) (p : Port) : (s.withdrawLimit p).checkResult = s.checkResult := by simp [State.withdrawLimit]
@[simp] theorem State.withdrawLimit_site (s : State) (p : Port) : (s.withdrawLimit p).site = s.site := by simp [State.withdrawLimit]
@[simp] theorem State.withdrawLimit_portTable (s : State) (p : Port) : (s.withdrawLimit p).portTable = s.portTable := by simp [State.withdrawLimit]
@[simp] theorem State.withdrawLimit_restartPending (s : State) (p : Port) : (s.withdrawLimit p).restartPending = s.restartPending := by simp [State.withdrawLimit]
@[simp] theorem State.withdrawLimit_holdingEntries (s : State) (p : Port) : (s.withdrawLimit p).holdingEntries = s.holdingEntries := by simp [State.withdrawLimit]
@[simp] theorem State.withdrawLimit_readProgress (s : State) (p : Port) : (s.withdrawLimit p).readProgress = s.readProgress := by simp [State.withdrawLimit]
@[simp] theorem State.withdrawLimit_frameTimer (s : State) (p : Port) : (s.withdrawLimit p).frameTimer = s.frameTimer := by simp [State.withdrawLimit]
@[simp] theorem State.withdrawLimit_frameNumber (s : State) (p : Port) : (s.withdrawLimit p).frameNumber = s.frameNumber := by simp [State.withdrawLimit]
@[simp] theorem State.withdrawLimit_primingCounter (s : State) (p : Port) : (s.withdrawLimit p).primingCounter = s.primingCounter := by simp [State.withdrawLimit]
@[simp] theorem State.withdrawLimit_reference (s : State) (p : Port) : (s.withdrawLimit p).reference = s.reference := by simp [State.withdrawLimit]
@[simp] theorem State.withdrawLimit_target (s : State) (p : Port) : (s.withdrawLimit p).target = s.target := by simp [State.withdrawLimit]
@[simp] theorem State.withdrawLimit_storageNet (s : State) (p : Port) : (s.withdrawLimit p).storageNet = s.storageNet := by simp [State.withdrawLimit]
@[simp] theorem State.withdrawLimit_excursions (s : State) (p : Port) : (s.withdrawLimit p).excursions = s.excursions := by simp [State.withdrawLimit]
@[simp] theorem State.withdrawLimit_windowConflicts (s : State) (p : Port) : (s.withdrawLimit p).windowConflicts = s.windowConflicts := by simp [State.withdrawLimit]
@[simp] theorem State.withdrawLimit_ring (s : State) (p : Port) : (s.withdrawLimit p).ring = s.ring := by simp [State.withdrawLimit]
@[simp] theorem State.withdrawLimit_windowBase (s : State) (p : Port) : (s.withdrawLimit p).windowBase = s.windowBase := by simp [State.withdrawLimit]
@[simp] theorem State.withdrawLimit_sinceBase (s : State) (p : Port) : (s.withdrawLimit p).sinceBase = s.sinceBase := by simp [State.withdrawLimit]
@[simp] theorem State.withdrawLimit_reseedPending (s : State) (p : Port) : (s.withdrawLimit p).reseedPending = s.reseedPending := by simp [State.withdrawLimit]
@[simp] theorem State.withdrawLimit_complianceLatched (s : State) (p : Port) : (s.withdrawLimit p).complianceLatched = s.complianceLatched := by simp [State.withdrawLimit]
@[simp] theorem State.withdrawLimit_complianceEpisodes (s : State) (p : Port) : (s.withdrawLimit p).complianceEpisodes = s.complianceEpisodes := by simp [State.withdrawLimit]
@[simp] theorem State.withdrawLimit_defaultProfile (s : State) (p : Port) : (s.withdrawLimit p).defaultProfile = s.defaultProfile := by simp [State.withdrawLimit]
@[simp] theorem State.withdrawLimit_entries (s : State) (p : Port) : (s.withdrawLimit p).entries = s.entries := by simp [State.withdrawLimit]
@[simp] theorem State.withdrawLimit_scanTimer (s : State) (p : Port) : (s.withdrawLimit p).scanTimer = s.scanTimer := by simp [State.withdrawLimit]
@[simp] theorem State.withdrawLimit_scan (s : State) (p : Port) : (s.withdrawLimit p).scan = s.scan := by simp [State.withdrawLimit]
@[simp] theorem State.withdrawLimit_channels (s : State) (p : Port) : (s.withdrawLimit p).channels = s.channels := by simp [State.withdrawLimit]
@[simp] theorem State.withdrawLimit_sweepStart (s : State) (p : Port) : (s.withdrawLimit p).sweepStart = s.sweepStart := by simp [State.withdrawLimit]
@[simp] theorem State.withdrawLimit_sweepLfsr (s : State) (p : Port) : (s.withdrawLimit p).sweepLfsr = s.sweepLfsr := by simp [State.withdrawLimit]
@[simp] theorem State.withdrawLimit_sweepOrder (s : State) (p : Port) : (s.withdrawLimit p).sweepOrder = s.sweepOrder := by simp [State.withdrawLimit]
@[simp] theorem State.withdrawLimit_records (s : State) (p : Port) : (s.withdrawLimit p).records = s.records := by simp [State.withdrawLimit]
@[simp] theorem State.withdrawLimit_openChoices (s : State) (p : Port) : (s.withdrawLimit p).openChoices = s.openChoices := by simp [State.withdrawLimit]
@[simp] theorem State.withdrawLimit_pending (s : State) (p : Port) : (s.withdrawLimit p).pending = s.pending := by simp [State.withdrawLimit]
@[simp] theorem State.withdrawLimit_config (s : State) (p : Port) (q : Port) : (s.withdrawLimit p).config q = s.config q := by simp [State.withdrawLimit]
@[simp] theorem State.withdrawLimit_record (s : State) (p : Port) (q : Port) : (s.withdrawLimit p).record q = s.record q := by simp [State.withdrawLimit]
@[simp] theorem State.withdrawLimit_channel (s : State) (p : Port) (q : ChannelIndex) : (s.withdrawLimit p).channel q = s.channel q := by simp [State.withdrawLimit]

/-! ### `State.raise` -/

@[simp] theorem State.raise_mode (s : State) (n : Notice) : (s.raise n).mode = s.mode := by simp [State.raise]
@[simp] theorem State.raise_restartCause (s : State) (n : Notice) : (s.raise n).restartCause = s.restartCause := by simp [State.raise]
@[simp] theorem State.raise_checkResult (s : State) (n : Notice) : (s.raise n).checkResult = s.checkResult := by simp [State.raise]
@[simp] theorem State.raise_site (s : State) (n : Notice) : (s.raise n).site = s.site := by simp [State.raise]
@[simp] theorem State.raise_portTable (s : State) (n : Notice) : (s.raise n).portTable = s.portTable := by simp [State.raise]
@[simp] theorem State.raise_restartPending (s : State) (n : Notice) : (s.raise n).restartPending = s.restartPending := by simp [State.raise]
@[simp] theorem State.raise_holdingEntries (s : State) (n : Notice) : (s.raise n).holdingEntries = s.holdingEntries := by simp [State.raise]
@[simp] theorem State.raise_readProgress (s : State) (n : Notice) : (s.raise n).readProgress = s.readProgress := by simp [State.raise]
@[simp] theorem State.raise_frameTimer (s : State) (n : Notice) : (s.raise n).frameTimer = s.frameTimer := by simp [State.raise]
@[simp] theorem State.raise_frameNumber (s : State) (n : Notice) : (s.raise n).frameNumber = s.frameNumber := by simp [State.raise]
@[simp] theorem State.raise_primingCounter (s : State) (n : Notice) : (s.raise n).primingCounter = s.primingCounter := by simp [State.raise]
@[simp] theorem State.raise_reference (s : State) (n : Notice) : (s.raise n).reference = s.reference := by simp [State.raise]
@[simp] theorem State.raise_target (s : State) (n : Notice) : (s.raise n).target = s.target := by simp [State.raise]
@[simp] theorem State.raise_storageNet (s : State) (n : Notice) : (s.raise n).storageNet = s.storageNet := by simp [State.raise]
@[simp] theorem State.raise_excursions (s : State) (n : Notice) : (s.raise n).excursions = s.excursions := by simp [State.raise]
@[simp] theorem State.raise_windowConflicts (s : State) (n : Notice) : (s.raise n).windowConflicts = s.windowConflicts := by simp [State.raise]
@[simp] theorem State.raise_ring (s : State) (n : Notice) : (s.raise n).ring = s.ring := by simp [State.raise]
@[simp] theorem State.raise_windowBase (s : State) (n : Notice) : (s.raise n).windowBase = s.windowBase := by simp [State.raise]
@[simp] theorem State.raise_sinceBase (s : State) (n : Notice) : (s.raise n).sinceBase = s.sinceBase := by simp [State.raise]
@[simp] theorem State.raise_reseedPending (s : State) (n : Notice) : (s.raise n).reseedPending = s.reseedPending := by simp [State.raise]
@[simp] theorem State.raise_complianceLatched (s : State) (n : Notice) : (s.raise n).complianceLatched = s.complianceLatched := by simp [State.raise]
@[simp] theorem State.raise_complianceEpisodes (s : State) (n : Notice) : (s.raise n).complianceEpisodes = s.complianceEpisodes := by simp [State.raise]
@[simp] theorem State.raise_defaultProfile (s : State) (n : Notice) : (s.raise n).defaultProfile = s.defaultProfile := by simp [State.raise]
@[simp] theorem State.raise_entries (s : State) (n : Notice) : (s.raise n).entries = s.entries := by simp [State.raise]
@[simp] theorem State.raise_scanTimer (s : State) (n : Notice) : (s.raise n).scanTimer = s.scanTimer := by simp [State.raise]
@[simp] theorem State.raise_scan (s : State) (n : Notice) : (s.raise n).scan = s.scan := by simp [State.raise]
@[simp] theorem State.raise_channels (s : State) (n : Notice) : (s.raise n).channels = s.channels := by simp [State.raise]
@[simp] theorem State.raise_sweepStart (s : State) (n : Notice) : (s.raise n).sweepStart = s.sweepStart := by simp [State.raise]
@[simp] theorem State.raise_sweepLfsr (s : State) (n : Notice) : (s.raise n).sweepLfsr = s.sweepLfsr := by simp [State.raise]
@[simp] theorem State.raise_sweepOrder (s : State) (n : Notice) : (s.raise n).sweepOrder = s.sweepOrder := by simp [State.raise]
@[simp] theorem State.raise_records (s : State) (n : Notice) : (s.raise n).records = s.records := by simp [State.raise]
@[simp] theorem State.raise_openChoices (s : State) (n : Notice) : (s.raise n).openChoices = s.openChoices := by simp [State.raise]
@[simp] theorem State.raise_pending (s : State) (n : Notice) : (s.raise n).pending = s.pending := by simp [State.raise]
@[simp] theorem State.raise_config (s : State) (n : Notice) (q : Port) : (s.raise n).config q = s.config q := by simp [State.raise]
@[simp] theorem State.raise_record (s : State) (n : Notice) (q : Port) : (s.raise n).record q = s.record q := by simp [State.raise]
@[simp] theorem State.raise_channel (s : State) (n : Notice) (q : ChannelIndex) : (s.raise n).channel q = s.channel q := by simp [State.raise]

/-! ### `State.dropFormerSets` -/

@[simp] theorem State.dropFormerSets_mode (s : State) (before : State) : (s.dropFormerSets before).mode = s.mode := by simp [State.dropFormerSets]
@[simp] theorem State.dropFormerSets_restartCause (s : State) (before : State) : (s.dropFormerSets before).restartCause = s.restartCause := by simp [State.dropFormerSets]
@[simp] theorem State.dropFormerSets_checkResult (s : State) (before : State) : (s.dropFormerSets before).checkResult = s.checkResult := by simp [State.dropFormerSets]
@[simp] theorem State.dropFormerSets_site (s : State) (before : State) : (s.dropFormerSets before).site = s.site := by simp [State.dropFormerSets]
@[simp] theorem State.dropFormerSets_portTable (s : State) (before : State) : (s.dropFormerSets before).portTable = s.portTable := by simp [State.dropFormerSets]
@[simp] theorem State.dropFormerSets_restartPending (s : State) (before : State) : (s.dropFormerSets before).restartPending = s.restartPending := by simp [State.dropFormerSets]
@[simp] theorem State.dropFormerSets_holdingEntries (s : State) (before : State) : (s.dropFormerSets before).holdingEntries = s.holdingEntries := by simp [State.dropFormerSets]
@[simp] theorem State.dropFormerSets_readProgress (s : State) (before : State) : (s.dropFormerSets before).readProgress = s.readProgress := by simp [State.dropFormerSets]
@[simp] theorem State.dropFormerSets_frameTimer (s : State) (before : State) : (s.dropFormerSets before).frameTimer = s.frameTimer := by simp [State.dropFormerSets]
@[simp] theorem State.dropFormerSets_frameNumber (s : State) (before : State) : (s.dropFormerSets before).frameNumber = s.frameNumber := by simp [State.dropFormerSets]
@[simp] theorem State.dropFormerSets_primingCounter (s : State) (before : State) : (s.dropFormerSets before).primingCounter = s.primingCounter := by simp [State.dropFormerSets]
@[simp] theorem State.dropFormerSets_reference (s : State) (before : State) : (s.dropFormerSets before).reference = s.reference := by simp [State.dropFormerSets]
@[simp] theorem State.dropFormerSets_target (s : State) (before : State) : (s.dropFormerSets before).target = s.target := by simp [State.dropFormerSets]
@[simp] theorem State.dropFormerSets_storageNet (s : State) (before : State) : (s.dropFormerSets before).storageNet = s.storageNet := by simp [State.dropFormerSets]
@[simp] theorem State.dropFormerSets_excursions (s : State) (before : State) : (s.dropFormerSets before).excursions = s.excursions := by simp [State.dropFormerSets]
@[simp] theorem State.dropFormerSets_windowConflicts (s : State) (before : State) : (s.dropFormerSets before).windowConflicts = s.windowConflicts := by simp [State.dropFormerSets]
@[simp] theorem State.dropFormerSets_ring (s : State) (before : State) : (s.dropFormerSets before).ring = s.ring := by simp [State.dropFormerSets]
@[simp] theorem State.dropFormerSets_windowBase (s : State) (before : State) : (s.dropFormerSets before).windowBase = s.windowBase := by simp [State.dropFormerSets]
@[simp] theorem State.dropFormerSets_sinceBase (s : State) (before : State) : (s.dropFormerSets before).sinceBase = s.sinceBase := by simp [State.dropFormerSets]
@[simp] theorem State.dropFormerSets_reseedPending (s : State) (before : State) : (s.dropFormerSets before).reseedPending = s.reseedPending := by simp [State.dropFormerSets]
@[simp] theorem State.dropFormerSets_complianceLatched (s : State) (before : State) : (s.dropFormerSets before).complianceLatched = s.complianceLatched := by simp [State.dropFormerSets]
@[simp] theorem State.dropFormerSets_complianceEpisodes (s : State) (before : State) : (s.dropFormerSets before).complianceEpisodes = s.complianceEpisodes := by simp [State.dropFormerSets]
@[simp] theorem State.dropFormerSets_defaultProfile (s : State) (before : State) : (s.dropFormerSets before).defaultProfile = s.defaultProfile := by simp [State.dropFormerSets]
@[simp] theorem State.dropFormerSets_entries (s : State) (before : State) : (s.dropFormerSets before).entries = s.entries := by simp [State.dropFormerSets]
@[simp] theorem State.dropFormerSets_scanTimer (s : State) (before : State) : (s.dropFormerSets before).scanTimer = s.scanTimer := by simp [State.dropFormerSets]
@[simp] theorem State.dropFormerSets_scan (s : State) (before : State) : (s.dropFormerSets before).scan = s.scan := by simp [State.dropFormerSets]
@[simp] theorem State.dropFormerSets_channels (s : State) (before : State) : (s.dropFormerSets before).channels = s.channels := by simp [State.dropFormerSets]
@[simp] theorem State.dropFormerSets_sweepStart (s : State) (before : State) : (s.dropFormerSets before).sweepStart = s.sweepStart := by simp [State.dropFormerSets]
@[simp] theorem State.dropFormerSets_sweepLfsr (s : State) (before : State) : (s.dropFormerSets before).sweepLfsr = s.sweepLfsr := by simp [State.dropFormerSets]
@[simp] theorem State.dropFormerSets_sweepOrder (s : State) (before : State) : (s.dropFormerSets before).sweepOrder = s.sweepOrder := by simp [State.dropFormerSets]
@[simp] theorem State.dropFormerSets_records (s : State) (before : State) : (s.dropFormerSets before).records = s.records := by simp [State.dropFormerSets]
@[simp] theorem State.dropFormerSets_openChoices (s : State) (before : State) : (s.dropFormerSets before).openChoices = s.openChoices := by simp [State.dropFormerSets]
@[simp] theorem State.dropFormerSets_pending (s : State) (before : State) : (s.dropFormerSets before).pending = s.pending := by simp [State.dropFormerSets]
@[simp] theorem State.dropFormerSets_config (s : State) (before : State) (q : Port) : (s.dropFormerSets before).config q = s.config q := by simp [State.dropFormerSets]
@[simp] theorem State.dropFormerSets_record (s : State) (before : State) (q : Port) : (s.dropFormerSets before).record q = s.record q := by simp [State.dropFormerSets]
@[simp] theorem State.dropFormerSets_channel (s : State) (before : State) (q : ChannelIndex) : (s.dropFormerSets before).channel q = s.channel q := by simp [State.dropFormerSets]

/-! ### `State.sendLimit` -/

@[simp] theorem State.sendLimit_mode (s : State) (p : Port) (a : LimitAction) (v : Int) : (s.sendLimit p a v).mode = s.mode := by simp [State.sendLimit]
@[simp] theorem State.sendLimit_restartCause (s : State) (p : Port) (a : LimitAction) (v : Int) : (s.sendLimit p a v).restartCause = s.restartCause := by simp [State.sendLimit]
@[simp] theorem State.sendLimit_checkResult (s : State) (p : Port) (a : LimitAction) (v : Int) : (s.sendLimit p a v).checkResult = s.checkResult := by simp [State.sendLimit]
@[simp] theorem State.sendLimit_site (s : State) (p : Port) (a : LimitAction) (v : Int) : (s.sendLimit p a v).site = s.site := by simp [State.sendLimit]
@[simp] theorem State.sendLimit_portTable (s : State) (p : Port) (a : LimitAction) (v : Int) : (s.sendLimit p a v).portTable = s.portTable := by simp [State.sendLimit]
@[simp] theorem State.sendLimit_restartPending (s : State) (p : Port) (a : LimitAction) (v : Int) : (s.sendLimit p a v).restartPending = s.restartPending := by simp [State.sendLimit]
@[simp] theorem State.sendLimit_holdingEntries (s : State) (p : Port) (a : LimitAction) (v : Int) : (s.sendLimit p a v).holdingEntries = s.holdingEntries := by simp [State.sendLimit]
@[simp] theorem State.sendLimit_readProgress (s : State) (p : Port) (a : LimitAction) (v : Int) : (s.sendLimit p a v).readProgress = s.readProgress := by simp [State.sendLimit]
@[simp] theorem State.sendLimit_frameTimer (s : State) (p : Port) (a : LimitAction) (v : Int) : (s.sendLimit p a v).frameTimer = s.frameTimer := by simp [State.sendLimit]
@[simp] theorem State.sendLimit_frameNumber (s : State) (p : Port) (a : LimitAction) (v : Int) : (s.sendLimit p a v).frameNumber = s.frameNumber := by simp [State.sendLimit]
@[simp] theorem State.sendLimit_primingCounter (s : State) (p : Port) (a : LimitAction) (v : Int) : (s.sendLimit p a v).primingCounter = s.primingCounter := by simp [State.sendLimit]
@[simp] theorem State.sendLimit_reference (s : State) (p : Port) (a : LimitAction) (v : Int) : (s.sendLimit p a v).reference = s.reference := by simp [State.sendLimit]
@[simp] theorem State.sendLimit_target (s : State) (p : Port) (a : LimitAction) (v : Int) : (s.sendLimit p a v).target = s.target := by simp [State.sendLimit]
@[simp] theorem State.sendLimit_storageNet (s : State) (p : Port) (a : LimitAction) (v : Int) : (s.sendLimit p a v).storageNet = s.storageNet := by simp [State.sendLimit]
@[simp] theorem State.sendLimit_excursions (s : State) (p : Port) (a : LimitAction) (v : Int) : (s.sendLimit p a v).excursions = s.excursions := by simp [State.sendLimit]
@[simp] theorem State.sendLimit_windowConflicts (s : State) (p : Port) (a : LimitAction) (v : Int) : (s.sendLimit p a v).windowConflicts = s.windowConflicts := by simp [State.sendLimit]
@[simp] theorem State.sendLimit_ring (s : State) (p : Port) (a : LimitAction) (v : Int) : (s.sendLimit p a v).ring = s.ring := by simp [State.sendLimit]
@[simp] theorem State.sendLimit_windowBase (s : State) (p : Port) (a : LimitAction) (v : Int) : (s.sendLimit p a v).windowBase = s.windowBase := by simp [State.sendLimit]
@[simp] theorem State.sendLimit_sinceBase (s : State) (p : Port) (a : LimitAction) (v : Int) : (s.sendLimit p a v).sinceBase = s.sinceBase := by simp [State.sendLimit]
@[simp] theorem State.sendLimit_reseedPending (s : State) (p : Port) (a : LimitAction) (v : Int) : (s.sendLimit p a v).reseedPending = s.reseedPending := by simp [State.sendLimit]
@[simp] theorem State.sendLimit_complianceLatched (s : State) (p : Port) (a : LimitAction) (v : Int) : (s.sendLimit p a v).complianceLatched = s.complianceLatched := by simp [State.sendLimit]
@[simp] theorem State.sendLimit_complianceEpisodes (s : State) (p : Port) (a : LimitAction) (v : Int) : (s.sendLimit p a v).complianceEpisodes = s.complianceEpisodes := by simp [State.sendLimit]
@[simp] theorem State.sendLimit_defaultProfile (s : State) (p : Port) (a : LimitAction) (v : Int) : (s.sendLimit p a v).defaultProfile = s.defaultProfile := by simp [State.sendLimit]
@[simp] theorem State.sendLimit_entries (s : State) (p : Port) (a : LimitAction) (v : Int) : (s.sendLimit p a v).entries = s.entries := by simp [State.sendLimit]
@[simp] theorem State.sendLimit_scanTimer (s : State) (p : Port) (a : LimitAction) (v : Int) : (s.sendLimit p a v).scanTimer = s.scanTimer := by simp [State.sendLimit]
@[simp] theorem State.sendLimit_scan (s : State) (p : Port) (a : LimitAction) (v : Int) : (s.sendLimit p a v).scan = s.scan := by simp [State.sendLimit]
@[simp] theorem State.sendLimit_channels (s : State) (p : Port) (a : LimitAction) (v : Int) : (s.sendLimit p a v).channels = s.channels := by simp [State.sendLimit]
@[simp] theorem State.sendLimit_sweepStart (s : State) (p : Port) (a : LimitAction) (v : Int) : (s.sendLimit p a v).sweepStart = s.sweepStart := by simp [State.sendLimit]
@[simp] theorem State.sendLimit_sweepLfsr (s : State) (p : Port) (a : LimitAction) (v : Int) : (s.sendLimit p a v).sweepLfsr = s.sweepLfsr := by simp [State.sendLimit]
@[simp] theorem State.sendLimit_sweepOrder (s : State) (p : Port) (a : LimitAction) (v : Int) : (s.sendLimit p a v).sweepOrder = s.sweepOrder := by simp [State.sendLimit]
@[simp] theorem State.sendLimit_openChoices (s : State) (p : Port) (a : LimitAction) (v : Int) : (s.sendLimit p a v).openChoices = s.openChoices := by simp [State.sendLimit]
@[simp] theorem State.sendLimit_pending (s : State) (p : Port) (a : LimitAction) (v : Int) : (s.sendLimit p a v).pending = s.pending := by simp [State.sendLimit]
@[simp] theorem State.sendLimit_config (s : State) (p : Port) (a : LimitAction) (v : Int) (q : Port) : (s.sendLimit p a v).config q = s.config q := by simp [State.sendLimit]
@[simp] theorem State.sendLimit_channel (s : State) (p : Port) (a : LimitAction) (v : Int) (q : ChannelIndex) : (s.sendLimit p a v).channel q = s.channel q := by simp [State.sendLimit]

/-! ### `State.acceptFrame` -/

@[simp] theorem State.acceptFrame_mode (s : State) (p : Port) : (s.acceptFrame p).mode = s.mode := by simp [State.acceptFrame]
@[simp] theorem State.acceptFrame_restartCause (s : State) (p : Port) : (s.acceptFrame p).restartCause = s.restartCause := by simp [State.acceptFrame]
@[simp] theorem State.acceptFrame_checkResult (s : State) (p : Port) : (s.acceptFrame p).checkResult = s.checkResult := by simp [State.acceptFrame]
@[simp] theorem State.acceptFrame_site (s : State) (p : Port) : (s.acceptFrame p).site = s.site := by simp [State.acceptFrame]
@[simp] theorem State.acceptFrame_portTable (s : State) (p : Port) : (s.acceptFrame p).portTable = s.portTable := by simp [State.acceptFrame]
@[simp] theorem State.acceptFrame_restartPending (s : State) (p : Port) : (s.acceptFrame p).restartPending = s.restartPending := by simp [State.acceptFrame]
@[simp] theorem State.acceptFrame_holdingEntries (s : State) (p : Port) : (s.acceptFrame p).holdingEntries = s.holdingEntries := by simp [State.acceptFrame]
@[simp] theorem State.acceptFrame_readProgress (s : State) (p : Port) : (s.acceptFrame p).readProgress = s.readProgress := by simp [State.acceptFrame]
@[simp] theorem State.acceptFrame_frameTimer (s : State) (p : Port) : (s.acceptFrame p).frameTimer = s.frameTimer := by simp [State.acceptFrame]
@[simp] theorem State.acceptFrame_frameNumber (s : State) (p : Port) : (s.acceptFrame p).frameNumber = s.frameNumber := by simp [State.acceptFrame]
@[simp] theorem State.acceptFrame_primingCounter (s : State) (p : Port) : (s.acceptFrame p).primingCounter = s.primingCounter := by simp [State.acceptFrame]
@[simp] theorem State.acceptFrame_reference (s : State) (p : Port) : (s.acceptFrame p).reference = s.reference := by simp [State.acceptFrame]
@[simp] theorem State.acceptFrame_target (s : State) (p : Port) : (s.acceptFrame p).target = s.target := by simp [State.acceptFrame]
@[simp] theorem State.acceptFrame_storageNet (s : State) (p : Port) : (s.acceptFrame p).storageNet = s.storageNet := by simp [State.acceptFrame]
@[simp] theorem State.acceptFrame_excursions (s : State) (p : Port) : (s.acceptFrame p).excursions = s.excursions := by simp [State.acceptFrame]
@[simp] theorem State.acceptFrame_windowConflicts (s : State) (p : Port) : (s.acceptFrame p).windowConflicts = s.windowConflicts := by simp [State.acceptFrame]
@[simp] theorem State.acceptFrame_ring (s : State) (p : Port) : (s.acceptFrame p).ring = s.ring := by simp [State.acceptFrame]
@[simp] theorem State.acceptFrame_windowBase (s : State) (p : Port) : (s.acceptFrame p).windowBase = s.windowBase := by simp [State.acceptFrame]
@[simp] theorem State.acceptFrame_sinceBase (s : State) (p : Port) : (s.acceptFrame p).sinceBase = s.sinceBase := by simp [State.acceptFrame]
@[simp] theorem State.acceptFrame_reseedPending (s : State) (p : Port) : (s.acceptFrame p).reseedPending = s.reseedPending := by simp [State.acceptFrame]
@[simp] theorem State.acceptFrame_complianceLatched (s : State) (p : Port) : (s.acceptFrame p).complianceLatched = s.complianceLatched := by simp [State.acceptFrame]
@[simp] theorem State.acceptFrame_complianceEpisodes (s : State) (p : Port) : (s.acceptFrame p).complianceEpisodes = s.complianceEpisodes := by simp [State.acceptFrame]
@[simp] theorem State.acceptFrame_defaultProfile (s : State) (p : Port) : (s.acceptFrame p).defaultProfile = s.defaultProfile := by simp [State.acceptFrame]
@[simp] theorem State.acceptFrame_entries (s : State) (p : Port) : (s.acceptFrame p).entries = s.entries := by simp [State.acceptFrame]
@[simp] theorem State.acceptFrame_scanTimer (s : State) (p : Port) : (s.acceptFrame p).scanTimer = s.scanTimer := by simp [State.acceptFrame]
@[simp] theorem State.acceptFrame_scan (s : State) (p : Port) : (s.acceptFrame p).scan = s.scan := by simp [State.acceptFrame]
@[simp] theorem State.acceptFrame_channels (s : State) (p : Port) : (s.acceptFrame p).channels = s.channels := by simp [State.acceptFrame]
@[simp] theorem State.acceptFrame_sweepStart (s : State) (p : Port) : (s.acceptFrame p).sweepStart = s.sweepStart := by simp [State.acceptFrame]
@[simp] theorem State.acceptFrame_sweepLfsr (s : State) (p : Port) : (s.acceptFrame p).sweepLfsr = s.sweepLfsr := by simp [State.acceptFrame]
@[simp] theorem State.acceptFrame_sweepOrder (s : State) (p : Port) : (s.acceptFrame p).sweepOrder = s.sweepOrder := by simp [State.acceptFrame]
@[simp] theorem State.acceptFrame_openChoices (s : State) (p : Port) : (s.acceptFrame p).openChoices = s.openChoices := by simp [State.acceptFrame]
@[simp] theorem State.acceptFrame_pending (s : State) (p : Port) : (s.acceptFrame p).pending = s.pending := by simp [State.acceptFrame]
@[simp] theorem State.acceptFrame_config (s : State) (p : Port) (q : Port) : (s.acceptFrame p).config q = s.config q := by simp [State.acceptFrame]
@[simp] theorem State.acceptFrame_channel (s : State) (p : Port) (q : ChannelIndex) : (s.acceptFrame p).channel q = s.channel q := by simp [State.acceptFrame]

end Sys2Proof.Machine
end

