-- ==== Sys2Proof/Laws/Ops.lean ====
section
/-! SUPPORT. What each shared operation can do, said once: which parts of the state it writes, and what it makes of them. -/

namespace Sys2Proof.Machine

/-! ### Standing -/

/-- Standing depends on the mode and the port table alone (R140). -/
theorem State.supervisory_congr {s t : State} (hm : t.mode = s.mode) (ht : t.portTable = s.portTable) (q : Port) :
    t.supervisory q = s.supervisory q := by
  simp [State.supervisory, State.openAccess, State.hasSupervisor, State.config, hm, ht]

theorem State.supervises_iff (s : State) (p : Port) : s.supervisory p = true ↔ s.Supervises p := by
  simp [State.supervisory, State.openAccess, State.hasSupervisor, State.Supervises]

/-- A running mode knows no open access: the supervisory ports are those of role SUPERVISOR (R140). -/
theorem State.supervisory_of_not_standby {s : State} (h : s.mode ≠ .standby) (q : Port) :
    s.supervisory q = ((s.config q).role == .supervisor) := by
  simp [State.supervisory, State.openAccess, h]

/-! ### Notices -/

theorem State.raise_frame (s : State) (n : Notice) : s.raise n = { s with links := (s.raise n).links } := by
  simp only [State.raise, State.mapLinks]

@[simp] theorem State.link_raise (s : State) (n : Notice) (q : Port) :
    (s.raise n).link q = if s.supervisory q then (s.link q).raise n else s.link q := by
  simp [State.raise]

@[simp] theorem State.raise_supervisory (s : State) (n : Notice) (q : Port) : (s.raise n).supervisory q = s.supervisory q :=
  State.supervisory_congr (by simp) (by simp) q

theorem State.raiseAll_frame (ns : List Notice) (s : State) : s.raiseAll ns = { s with links := (s.raiseAll ns).links } := by
  induction ns generalizing s with
  | nil => rfl
  | cons n ns ih =>
    show (s.raise n).raiseAll ns = { s with links := ((s.raise n).raiseAll ns).links }
    rw [ih (s.raise n)]
    rw [State.raise_frame]

@[simp] theorem State.raiseAll_mode (ns : List Notice) (s : State) : (s.raiseAll ns).mode = s.mode := by rw [State.raiseAll_frame]
@[simp] theorem State.raiseAll_restartCause (ns : List Notice) (s : State) : (s.raiseAll ns).restartCause = s.restartCause := by rw [State.raiseAll_frame]
@[simp] theorem State.raiseAll_checkResult (ns : List Notice) (s : State) : (s.raiseAll ns).checkResult = s.checkResult := by rw [State.raiseAll_frame]
@[simp] theorem State.raiseAll_site (ns : List Notice) (s : State) : (s.raiseAll ns).site = s.site := by rw [State.raiseAll_frame]
@[simp] theorem State.raiseAll_portTable (ns : List Notice) (s : State) : (s.raiseAll ns).portTable = s.portTable := by rw [State.raiseAll_frame]
@[simp] theorem State.raiseAll_restartPending (ns : List Notice) (s : State) : (s.raiseAll ns).restartPending = s.restartPending := by rw [State.raiseAll_frame]
@[simp] theorem State.raiseAll_holdingEntries (ns : List Notice) (s : State) : (s.raiseAll ns).holdingEntries = s.holdingEntries := by rw [State.raiseAll_frame]
@[simp] theorem State.raiseAll_readProgress (ns : List Notice) (s : State) : (s.raiseAll ns).readProgress = s.readProgress := by rw [State.raiseAll_frame]
@[simp] theorem State.raiseAll_frameTimer (ns : List Notice) (s : State) : (s.raiseAll ns).frameTimer = s.frameTimer := by rw [State.raiseAll_frame]
@[simp] theorem State.raiseAll_frameNumber (ns : List Notice) (s : State) : (s.raiseAll ns).frameNumber = s.frameNumber := by rw [State.raiseAll_frame]
@[simp] theorem State.raiseAll_primingCounter (ns : List Notice) (s : State) : (s.raiseAll ns).primingCounter = s.primingCounter := by rw [State.raiseAll_frame]
@[simp] theorem State.raiseAll_reference (ns : List Notice) (s : State) : (s.raiseAll ns).reference = s.reference := by rw [State.raiseAll_frame]
@[simp] theorem State.raiseAll_target (ns : List Notice) (s : State) : (s.raiseAll ns).target = s.target := by rw [State.raiseAll_frame]
@[simp] theorem State.raiseAll_storageNet (ns : List Notice) (s : State) : (s.raiseAll ns).storageNet = s.storageNet := by rw [State.raiseAll_frame]
@[simp] theorem State.raiseAll_excursions (ns : List Notice) (s : State) : (s.raiseAll ns).excursions = s.excursions := by rw [State.raiseAll_frame]
@[simp] theorem State.raiseAll_windowConflicts (ns : List Notice) (s : State) : (s.raiseAll ns).windowConflicts = s.windowConflicts := by rw [State.raiseAll_frame]
@[simp] theorem State.raiseAll_ring (ns : List Notice) (s : State) : (s.raiseAll ns).ring = s.ring := by rw [State.raiseAll_frame]
@[simp] theorem State.raiseAll_windowBase (ns : List Notice) (s : State) : (s.raiseAll ns).windowBase = s.windowBase := by rw [State.raiseAll_frame]
@[simp] theorem State.raiseAll_sinceBase (ns : List Notice) (s : State) : (s.raiseAll ns).sinceBase = s.sinceBase := by rw [State.raiseAll_frame]
@[simp] theorem State.raiseAll_reseedPending (ns : List Notice) (s : State) : (s.raiseAll ns).reseedPending = s.reseedPending := by rw [State.raiseAll_frame]
@[simp] theorem State.raiseAll_complianceLatched (ns : List Notice) (s : State) : (s.raiseAll ns).complianceLatched = s.complianceLatched := by rw [State.raiseAll_frame]
@[simp] theorem State.raiseAll_complianceEpisodes (ns : List Notice) (s : State) : (s.raiseAll ns).complianceEpisodes = s.complianceEpisodes := by rw [State.raiseAll_frame]
@[simp] theorem State.raiseAll_defaultProfile (ns : List Notice) (s : State) : (s.raiseAll ns).defaultProfile = s.defaultProfile := by rw [State.raiseAll_frame]
@[simp] theorem State.raiseAll_entries (ns : List Notice) (s : State) : (s.raiseAll ns).entries = s.entries := by rw [State.raiseAll_frame]
@[simp] theorem State.raiseAll_scanTimer (ns : List Notice) (s : State) : (s.raiseAll ns).scanTimer = s.scanTimer := by rw [State.raiseAll_frame]
@[simp] theorem State.raiseAll_scan (ns : List Notice) (s : State) : (s.raiseAll ns).scan = s.scan := by rw [State.raiseAll_frame]
@[simp] theorem State.raiseAll_channels (ns : List Notice) (s : State) : (s.raiseAll ns).channels = s.channels := by rw [State.raiseAll_frame]
@[simp] theorem State.raiseAll_sweepStart (ns : List Notice) (s : State) : (s.raiseAll ns).sweepStart = s.sweepStart := by rw [State.raiseAll_frame]
@[simp] theorem State.raiseAll_sweepLfsr (ns : List Notice) (s : State) : (s.raiseAll ns).sweepLfsr = s.sweepLfsr := by rw [State.raiseAll_frame]
@[simp] theorem State.raiseAll_sweepOrder (ns : List Notice) (s : State) : (s.raiseAll ns).sweepOrder = s.sweepOrder := by rw [State.raiseAll_frame]
@[simp] theorem State.raiseAll_records (ns : List Notice) (s : State) : (s.raiseAll ns).records = s.records := by rw [State.raiseAll_frame]
@[simp] theorem State.raiseAll_openChoices (ns : List Notice) (s : State) : (s.raiseAll ns).openChoices = s.openChoices := by rw [State.raiseAll_frame]
@[simp] theorem State.raiseAll_pending (ns : List Notice) (s : State) : (s.raiseAll ns).pending = s.pending := by rw [State.raiseAll_frame]
@[simp] theorem State.raiseAll_config (ns : List Notice) (s : State) (q : Port) : (s.raiseAll ns).config q = s.config q := by
  rw [State.raiseAll_frame]; rfl
@[simp] theorem State.raiseAll_record (ns : List Notice) (s : State) (q : Port) : (s.raiseAll ns).record q = s.record q := by
  rw [State.raiseAll_frame]; rfl
@[simp] theorem State.raiseAll_channel (ns : List Notice) (s : State) (q : ChannelIndex) : (s.raiseAll ns).channel q = s.channel q := by
  rw [State.raiseAll_frame]; rfl
@[simp] theorem State.raiseAll_supervisory (ns : List Notice) (s : State) (q : Port) : (s.raiseAll ns).supervisory q = s.supervisory q := by
  simp [State.supervisory, State.openAccess, State.hasSupervisor]


/-- Notices raised one after the other reach each link by its port's standing (R159). -/
theorem State.link_raiseAll (ns : List Notice) (s : State) (q : Port) :
    (s.raiseAll ns).link q = s.notified ns q (s.link q) := by
  induction ns generalizing s with
  | nil => simp [State.raiseAll, State.notified]
  | cons n ns ih =>
    show ((s.raise n).raiseAll ns).link q = _
    rw [ih]
    by_cases h : s.supervisory q = true <;> simp [State.notified, h]

theorem State.notified_nil (s : State) (q : Port) (l : LinkPort) : s.notified [] q l = l := by
  simp [State.notified]

theorem State.notified_append (s : State) (ms ns : List Notice) (q : Port) (l : LinkPort) :
    s.notified (ms ++ ns) q l = s.notified ns q (s.notified ms q l) := by
  by_cases h : s.supervisory q = true <;> simp [State.notified, h]

/-- A notice changes nothing of a link but its pending set (R159). -/
theorem LinkPort.raise_frame (l : LinkPort) (n : Notice) : l.raise n = { l with notices := (l.raise n).notices } := by
  unfold LinkPort.raise; split <;> rfl

theorem State.notified_frame (s : State) (ns : List Notice) (q : Port) (l : LinkPort) :
    s.notified ns q l = { l with notices := (s.notified ns q l).notices } := by
  unfold State.notified
  split
  · induction ns generalizing l with
    | nil => rfl
    | cons n ns ih =>
      rw [List.foldl_cons, ih (l.raise n), LinkPort.raise_frame l n]
  · rfl

@[simp] theorem State.listChange_link (s : State) (c : ListCause) (p : Option Port) (q : Port) :
    (s.listChange c p).link q =
      s.notified [.listChange c p s.entries.length (activePosition s.entries)] q (s.link q) := by
  simp [State.listChange, State.notified]

theorem State.listChange_frame (c : ListCause) (p : Option Port) (s : State) :
    s.listChange c p = { s with links := (s.listChange c p).links } := State.raise_frame _ _

@[simp] theorem State.listChange_mode (c : ListCause) (p : Option Port) (s : State) : (s.listChange c p).mode = s.mode := by rw [State.listChange_frame]
@[simp] theorem State.listChange_restartCause (c : ListCause) (p : Option Port) (s : State) : (s.listChange c p).restartCause = s.restartCause := by rw [State.listChange_frame]
@[simp] theorem State.listChange_checkResult (c : ListCause) (p : Option Port) (s : State) : (s.listChange c p).checkResult = s.checkResult := by rw [State.listChange_frame]
@[simp] theorem State.listChange_site (c : ListCause) (p : Option Port) (s : State) : (s.listChange c p).site = s.site := by rw [State.listChange_frame]
@[simp] theorem State.listChange_portTable (c : ListCause) (p : Option Port) (s : State) : (s.listChange c p).portTable = s.portTable := by rw [State.listChange_frame]
@[simp] theorem State.listChange_restartPending (c : ListCause) (p : Option Port) (s : State) : (s.listChange c p).restartPending = s.restartPending := by rw [State.listChange_frame]
@[simp] theorem State.listChange_holdingEntries (c : ListCause) (p : Option Port) (s : State) : (s.listChange c p).holdingEntries = s.holdingEntries := by rw [State.listChange_frame]
@[simp] theorem State.listChange_readProgress (c : ListCause) (p : Option Port) (s : State) : (s.listChange c p).readProgress = s.readProgress := by rw [State.listChange_frame]
@[simp] theorem State.listChange_frameTimer (c : ListCause) (p : Option Port) (s : State) : (s.listChange c p).frameTimer = s.frameTimer := by rw [State.listChange_frame]
@[simp] theorem State.listChange_frameNumber (c : ListCause) (p : Option Port) (s : State) : (s.listChange c p).frameNumber = s.frameNumber := by rw [State.listChange_frame]
@[simp] theorem State.listChange_primingCounter (c : ListCause) (p : Option Port) (s : State) : (s.listChange c p).primingCounter = s.primingCounter := by rw [State.listChange_frame]
@[simp] theorem State.listChange_reference (c : ListCause) (p : Option Port) (s : State) : (s.listChange c p).reference = s.reference := by rw [State.listChange_frame]
@[simp] theorem State.listChange_target (c : ListCause) (p : Option Port) (s : State) : (s.listChange c p).target = s.target := by rw [State.listChange_frame]
@[simp] theorem State.listChange_storageNet (c : ListCause) (p : Option Port) (s : State) : (s.listChange c p).storageNet = s.storageNet := by rw [State.listChange_frame]
@[simp] theorem State.listChange_excursions (c : ListCause) (p : Option Port) (s : State) : (s.listChange c p).excursions = s.excursions := by rw [State.listChange_frame]
@[simp] theorem State.listChange_windowConflicts (c : ListCause) (p : Option Port) (s : State) : (s.listChange c p).windowConflicts = s.windowConflicts := by rw [State.listChange_frame]
@[simp] theorem State.listChange_ring (c : ListCause) (p : Option Port) (s : State) : (s.listChange c p).ring = s.ring := by rw [State.listChange_frame]
@[simp] theorem State.listChange_windowBase (c : ListCause) (p : Option Port) (s : State) : (s.listChange c p).windowBase = s.windowBase := by rw [State.listChange_frame]
@[simp] theorem State.listChange_sinceBase (c : ListCause) (p : Option Port) (s : State) : (s.listChange c p).sinceBase = s.sinceBase := by rw [State.listChange_frame]
@[simp] theorem State.listChange_reseedPending (c : ListCause) (p : Option Port) (s : State) : (s.listChange c p).reseedPending = s.reseedPending := by rw [State.listChange_frame]
@[simp] theorem State.listChange_complianceLatched (c : ListCause) (p : Option Port) (s : State) : (s.listChange c p).complianceLatched = s.complianceLatched := by rw [State.listChange_frame]
@[simp] theorem State.listChange_complianceEpisodes (c : ListCause) (p : Option Port) (s : State) : (s.listChange c p).complianceEpisodes = s.complianceEpisodes := by rw [State.listChange_frame]
@[simp] theorem State.listChange_defaultProfile (c : ListCause) (p : Option Port) (s : State) : (s.listChange c p).defaultProfile = s.defaultProfile := by rw [State.listChange_frame]
@[simp] theorem State.listChange_entries (c : ListCause) (p : Option Port) (s : State) : (s.listChange c p).entries = s.entries := by rw [State.listChange_frame]
@[simp] theorem State.listChange_scanTimer (c : ListCause) (p : Option Port) (s : State) : (s.listChange c p).scanTimer = s.scanTimer := by rw [State.listChange_frame]
@[simp] theorem State.listChange_scan (c : ListCause) (p : Option Port) (s : State) : (s.listChange c p).scan = s.scan := by rw [State.listChange_frame]
@[simp] theorem State.listChange_channels (c : ListCause) (p : Option Port) (s : State) : (s.listChange c p).channels = s.channels := by rw [State.listChange_frame]
@[simp] theorem State.listChange_sweepStart (c : ListCause) (p : Option Port) (s : State) : (s.listChange c p).sweepStart = s.sweepStart := by rw [State.listChange_frame]
@[simp] theorem State.listChange_sweepLfsr (c : ListCause) (p : Option Port) (s : State) : (s.listChange c p).sweepLfsr = s.sweepLfsr := by rw [State.listChange_frame]
@[simp] theorem State.listChange_sweepOrder (c : ListCause) (p : Option Port) (s : State) : (s.listChange c p).sweepOrder = s.sweepOrder := by rw [State.listChange_frame]
@[simp] theorem State.listChange_records (c : ListCause) (p : Option Port) (s : State) : (s.listChange c p).records = s.records := by rw [State.listChange_frame]
@[simp] theorem State.listChange_openChoices (c : ListCause) (p : Option Port) (s : State) : (s.listChange c p).openChoices = s.openChoices := by rw [State.listChange_frame]
@[simp] theorem State.listChange_pending (c : ListCause) (p : Option Port) (s : State) : (s.listChange c p).pending = s.pending := by rw [State.listChange_frame]
@[simp] theorem State.listChange_config (c : ListCause) (p : Option Port) (s : State) (q : Port) : (s.listChange c p).config q = s.config q := by
  rw [State.listChange_frame]; rfl
@[simp] theorem State.listChange_record (c : ListCause) (p : Option Port) (s : State) (q : Port) : (s.listChange c p).record q = s.record q := by
  rw [State.listChange_frame]; rfl
@[simp] theorem State.listChange_channel (c : ListCause) (p : Option Port) (s : State) (q : ChannelIndex) : (s.listChange c p).channel q = s.channel q := by
  rw [State.listChange_frame]; rfl
@[simp] theorem State.listChange_supervisory (c : ListCause) (p : Option Port) (s : State) (q : Port) : (s.listChange c p).supervisory q = s.supervisory q := by
  simp [State.supervisory, State.openAccess, State.hasSupervisor]


/-! ### Messages -/

@[simp] theorem State.link_enqueue (s : State) (p q : Port) (m : Message) :
    (s.enqueue p m).link q = if q = p then (s.link p).enqueue m else s.link q := by
  simp [State.enqueue]

@[simp] theorem State.link_ack (s : State) (p q : Port) (k : Byte) :
    (s.ack p k).link q = if q = p then (s.link p).enqueue (.ack k false false) else s.link q := by
  simp [State.ack]

@[simp] theorem State.link_nak (s : State) (p q : Port) (k : Byte) (reason : NakReason) :
    (s.nak p k reason).link q = if q = p then (s.link p).enqueue (.nak k reason) else s.link q := by
  simp [State.nak]

theorem State.ack_frame (p : Port) (k : Byte) (s : State) : s.ack p k = { s with links := (s.ack p k).links } := by
  simp only [State.ack, State.enqueue, State.setLink]

@[simp] theorem State.ack_mode (p : Port) (k : Byte) (s : State) : (s.ack p k).mode = s.mode := by rw [State.ack_frame]
@[simp] theorem State.ack_restartCause (p : Port) (k : Byte) (s : State) : (s.ack p k).restartCause = s.restartCause := by rw [State.ack_frame]
@[simp] theorem State.ack_checkResult (p : Port) (k : Byte) (s : State) : (s.ack p k).checkResult = s.checkResult := by rw [State.ack_frame]
@[simp] theorem State.ack_site (p : Port) (k : Byte) (s : State) : (s.ack p k).site = s.site := by rw [State.ack_frame]
@[simp] theorem State.ack_portTable (p : Port) (k : Byte) (s : State) : (s.ack p k).portTable = s.portTable := by rw [State.ack_frame]
@[simp] theorem State.ack_restartPending (p : Port) (k : Byte) (s : State) : (s.ack p k).restartPending = s.restartPending := by rw [State.ack_frame]
@[simp] theorem State.ack_holdingEntries (p : Port) (k : Byte) (s : State) : (s.ack p k).holdingEntries = s.holdingEntries := by rw [State.ack_frame]
@[simp] theorem State.ack_readProgress (p : Port) (k : Byte) (s : State) : (s.ack p k).readProgress = s.readProgress := by rw [State.ack_frame]
@[simp] theorem State.ack_frameTimer (p : Port) (k : Byte) (s : State) : (s.ack p k).frameTimer = s.frameTimer := by rw [State.ack_frame]
@[simp] theorem State.ack_frameNumber (p : Port) (k : Byte) (s : State) : (s.ack p k).frameNumber = s.frameNumber := by rw [State.ack_frame]
@[simp] theorem State.ack_primingCounter (p : Port) (k : Byte) (s : State) : (s.ack p k).primingCounter = s.primingCounter := by rw [State.ack_frame]
@[simp] theorem State.ack_reference (p : Port) (k : Byte) (s : State) : (s.ack p k).reference = s.reference := by rw [State.ack_frame]
@[simp] theorem State.ack_target (p : Port) (k : Byte) (s : State) : (s.ack p k).target = s.target := by rw [State.ack_frame]
@[simp] theorem State.ack_storageNet (p : Port) (k : Byte) (s : State) : (s.ack p k).storageNet = s.storageNet := by rw [State.ack_frame]
@[simp] theorem State.ack_excursions (p : Port) (k : Byte) (s : State) : (s.ack p k).excursions = s.excursions := by rw [State.ack_frame]
@[simp] theorem State.ack_windowConflicts (p : Port) (k : Byte) (s : State) : (s.ack p k).windowConflicts = s.windowConflicts := by rw [State.ack_frame]
@[simp] theorem State.ack_ring (p : Port) (k : Byte) (s : State) : (s.ack p k).ring = s.ring := by rw [State.ack_frame]
@[simp] theorem State.ack_windowBase (p : Port) (k : Byte) (s : State) : (s.ack p k).windowBase = s.windowBase := by rw [State.ack_frame]
@[simp] theorem State.ack_sinceBase (p : Port) (k : Byte) (s : State) : (s.ack p k).sinceBase = s.sinceBase := by rw [State.ack_frame]
@[simp] theorem State.ack_reseedPending (p : Port) (k : Byte) (s : State) : (s.ack p k).reseedPending = s.reseedPending := by rw [State.ack_frame]
@[simp] theorem State.ack_complianceLatched (p : Port) (k : Byte) (s : State) : (s.ack p k).complianceLatched = s.complianceLatched := by rw [State.ack_frame]
@[simp] theorem State.ack_complianceEpisodes (p : Port) (k : Byte) (s : State) : (s.ack p k).complianceEpisodes = s.complianceEpisodes := by rw [State.ack_frame]
@[simp] theorem State.ack_defaultProfile (p : Port) (k : Byte) (s : State) : (s.ack p k).defaultProfile = s.defaultProfile := by rw [State.ack_frame]
@[simp] theorem State.ack_entries (p : Port) (k : Byte) (s : State) : (s.ack p k).entries = s.entries := by rw [State.ack_frame]
@[simp] theorem State.ack_scanTimer (p : Port) (k : Byte) (s : State) : (s.ack p k).scanTimer = s.scanTimer := by rw [State.ack_frame]
@[simp] theorem State.ack_scan (p : Port) (k : Byte) (s : State) : (s.ack p k).scan = s.scan := by rw [State.ack_frame]
@[simp] theorem State.ack_channels (p : Port) (k : Byte) (s : State) : (s.ack p k).channels = s.channels := by rw [State.ack_frame]
@[simp] theorem State.ack_sweepStart (p : Port) (k : Byte) (s : State) : (s.ack p k).sweepStart = s.sweepStart := by rw [State.ack_frame]
@[simp] theorem State.ack_sweepLfsr (p : Port) (k : Byte) (s : State) : (s.ack p k).sweepLfsr = s.sweepLfsr := by rw [State.ack_frame]
@[simp] theorem State.ack_sweepOrder (p : Port) (k : Byte) (s : State) : (s.ack p k).sweepOrder = s.sweepOrder := by rw [State.ack_frame]
@[simp] theorem State.ack_records (p : Port) (k : Byte) (s : State) : (s.ack p k).records = s.records := by rw [State.ack_frame]
@[simp] theorem State.ack_openChoices (p : Port) (k : Byte) (s : State) : (s.ack p k).openChoices = s.openChoices := by rw [State.ack_frame]
@[simp] theorem State.ack_pending (p : Port) (k : Byte) (s : State) : (s.ack p k).pending = s.pending := by rw [State.ack_frame]
@[simp] theorem State.ack_config (p : Port) (k : Byte) (s : State) (q : Port) : (s.ack p k).config q = s.config q := by
  rw [State.ack_frame]; rfl
@[simp] theorem State.ack_record (p : Port) (k : Byte) (s : State) (q : Port) : (s.ack p k).record q = s.record q := by
  rw [State.ack_frame]; rfl
@[simp] theorem State.ack_channel (p : Port) (k : Byte) (s : State) (q : ChannelIndex) : (s.ack p k).channel q = s.channel q := by
  rw [State.ack_frame]; rfl
@[simp] theorem State.ack_supervisory (p : Port) (k : Byte) (s : State) (q : Port) : (s.ack p k).supervisory q = s.supervisory q := by
  simp [State.supervisory, State.openAccess, State.hasSupervisor]


theorem State.nak_frame (p : Port) (k : Byte) (r : NakReason) (s : State) :
    s.nak p k r = { s with links := (s.nak p k r).links } := by
  simp only [State.nak, State.enqueue, State.setLink]

@[simp] theorem State.nak_mode (p : Port) (k : Byte) (r : NakReason) (s : State) : (s.nak p k r).mode = s.mode := by rw [State.nak_frame]
@[simp] theorem State.nak_restartCause (p : Port) (k : Byte) (r : NakReason) (s : State) : (s.nak p k r).restartCause = s.restartCause := by rw [State.nak_frame]
@[simp] theorem State.nak_checkResult (p : Port) (k : Byte) (r : NakReason) (s : State) : (s.nak p k r).checkResult = s.checkResult := by rw [State.nak_frame]
@[simp] theorem State.nak_site (p : Port) (k : Byte) (r : NakReason) (s : State) : (s.nak p k r).site = s.site := by rw [State.nak_frame]
@[simp] theorem State.nak_portTable (p : Port) (k : Byte) (r : NakReason) (s : State) : (s.nak p k r).portTable = s.portTable := by rw [State.nak_frame]
@[simp] theorem State.nak_restartPending (p : Port) (k : Byte) (r : NakReason) (s : State) : (s.nak p k r).restartPending = s.restartPending := by rw [State.nak_frame]
@[simp] theorem State.nak_holdingEntries (p : Port) (k : Byte) (r : NakReason) (s : State) : (s.nak p k r).holdingEntries = s.holdingEntries := by rw [State.nak_frame]
@[simp] theorem State.nak_readProgress (p : Port) (k : Byte) (r : NakReason) (s : State) : (s.nak p k r).readProgress = s.readProgress := by rw [State.nak_frame]
@[simp] theorem State.nak_frameTimer (p : Port) (k : Byte) (r : NakReason) (s : State) : (s.nak p k r).frameTimer = s.frameTimer := by rw [State.nak_frame]
@[simp] theorem State.nak_frameNumber (p : Port) (k : Byte) (r : NakReason) (s : State) : (s.nak p k r).frameNumber = s.frameNumber := by rw [State.nak_frame]
@[simp] theorem State.nak_primingCounter (p : Port) (k : Byte) (r : NakReason) (s : State) : (s.nak p k r).primingCounter = s.primingCounter := by rw [State.nak_frame]
@[simp] theorem State.nak_reference (p : Port) (k : Byte) (r : NakReason) (s : State) : (s.nak p k r).reference = s.reference := by rw [State.nak_frame]
@[simp] theorem State.nak_target (p : Port) (k : Byte) (r : NakReason) (s : State) : (s.nak p k r).target = s.target := by rw [State.nak_frame]
@[simp] theorem State.nak_storageNet (p : Port) (k : Byte) (r : NakReason) (s : State) : (s.nak p k r).storageNet = s.storageNet := by rw [State.nak_frame]
@[simp] theorem State.nak_excursions (p : Port) (k : Byte) (r : NakReason) (s : State) : (s.nak p k r).excursions = s.excursions := by rw [State.nak_frame]
@[simp] theorem State.nak_windowConflicts (p : Port) (k : Byte) (r : NakReason) (s : State) : (s.nak p k r).windowConflicts = s.windowConflicts := by rw [State.nak_frame]
@[simp] theorem State.nak_ring (p : Port) (k : Byte) (r : NakReason) (s : State) : (s.nak p k r).ring = s.ring := by rw [State.nak_frame]
@[simp] theorem State.nak_windowBase (p : Port) (k : Byte) (r : NakReason) (s : State) : (s.nak p k r).windowBase = s.windowBase := by rw [State.nak_frame]
@[simp] theorem State.nak_sinceBase (p : Port) (k : Byte) (r : NakReason) (s : State) : (s.nak p k r).sinceBase = s.sinceBase := by rw [State.nak_frame]
@[simp] theorem State.nak_reseedPending (p : Port) (k : Byte) (r : NakReason) (s : State) : (s.nak p k r).reseedPending = s.reseedPending := by rw [State.nak_frame]
@[simp] theorem State.nak_complianceLatched (p : Port) (k : Byte) (r : NakReason) (s : State) : (s.nak p k r).complianceLatched = s.complianceLatched := by rw [State.nak_frame]
@[simp] theorem State.nak_complianceEpisodes (p : Port) (k : Byte) (r : NakReason) (s : State) : (s.nak p k r).complianceEpisodes = s.complianceEpisodes := by rw [State.nak_frame]
@[simp] theorem State.nak_defaultProfile (p : Port) (k : Byte) (r : NakReason) (s : State) : (s.nak p k r).defaultProfile = s.defaultProfile := by rw [State.nak_frame]
@[simp] theorem State.nak_entries (p : Port) (k : Byte) (r : NakReason) (s : State) : (s.nak p k r).entries = s.entries := by rw [State.nak_frame]
@[simp] theorem State.nak_scanTimer (p : Port) (k : Byte) (r : NakReason) (s : State) : (s.nak p k r).scanTimer = s.scanTimer := by rw [State.nak_frame]
@[simp] theorem State.nak_scan (p : Port) (k : Byte) (r : NakReason) (s : State) : (s.nak p k r).scan = s.scan := by rw [State.nak_frame]
@[simp] theorem State.nak_channels (p : Port) (k : Byte) (r : NakReason) (s : State) : (s.nak p k r).channels = s.channels := by rw [State.nak_frame]
@[simp] theorem State.nak_sweepStart (p : Port) (k : Byte) (r : NakReason) (s : State) : (s.nak p k r).sweepStart = s.sweepStart := by rw [State.nak_frame]
@[simp] theorem State.nak_sweepLfsr (p : Port) (k : Byte) (r : NakReason) (s : State) : (s.nak p k r).sweepLfsr = s.sweepLfsr := by rw [State.nak_frame]
@[simp] theorem State.nak_sweepOrder (p : Port) (k : Byte) (r : NakReason) (s : State) : (s.nak p k r).sweepOrder = s.sweepOrder := by rw [State.nak_frame]
@[simp] theorem State.nak_records (p : Port) (k : Byte) (r : NakReason) (s : State) : (s.nak p k r).records = s.records := by rw [State.nak_frame]
@[simp] theorem State.nak_openChoices (p : Port) (k : Byte) (r : NakReason) (s : State) : (s.nak p k r).openChoices = s.openChoices := by rw [State.nak_frame]
@[simp] theorem State.nak_pending (p : Port) (k : Byte) (r : NakReason) (s : State) : (s.nak p k r).pending = s.pending := by rw [State.nak_frame]
@[simp] theorem State.nak_config (p : Port) (k : Byte) (r : NakReason) (s : State) (q : Port) : (s.nak p k r).config q = s.config q := by
  rw [State.nak_frame]; rfl
@[simp] theorem State.nak_record (p : Port) (k : Byte) (r : NakReason) (s : State) (q : Port) : (s.nak p k r).record q = s.record q := by
  rw [State.nak_frame]; rfl
@[simp] theorem State.nak_channel (p : Port) (k : Byte) (r : NakReason) (s : State) (q : ChannelIndex) : (s.nak p k r).channel q = s.channel q := by
  rw [State.nak_frame]; rfl
@[simp] theorem State.nak_supervisory (p : Port) (k : Byte) (r : NakReason) (s : State) (q : Port) : (s.nak p k r).supervisory q = s.supervisory q := by
  simp [State.supervisory, State.openAccess, State.hasSupervisor]


@[simp] theorem State.record_sendLimit (s : State) (p q : Port) (a : LimitAction) (v : Int) :
    (s.sendLimit p a v).record q = if q = p then { s.record p with lastSent := some v } else s.record q := by
  simp [State.sendLimit]

@[simp] theorem State.link_sendLimit (s : State) (p q : Port) (a : LimitAction) (v : Int) :
    (s.sendLimit p a v).link q = if q = p then (s.link p).enqueue (.limit a v s.frameNumber) else s.link q := by
  simp [State.sendLimit]

@[simp] theorem State.record_sendKeep (s : State) (p q : Port) :
    (s.sendKeep p).record q =
      if q = p then { s.record p with lastSent := some (s.record p).committed } else s.record q := by
  simp [State.sendKeep]

@[simp] theorem State.link_sendKeep (s : State) (p q : Port) :
    (s.sendKeep p).link q =
      if q = p then (s.link p).enqueue (.limit .keep (s.record p).committed s.frameNumber) else s.link q := by
  simp [State.sendKeep]

theorem State.sendKeep_frame (p : Port) (s : State) :
    s.sendKeep p = { s with records := (s.sendKeep p).records, links := (s.sendKeep p).links } := by
  simp only [State.sendKeep, State.sendLimit, State.enqueue, State.setLink, State.setRecord]

@[simp] theorem State.sendKeep_mode (p : Port) (s : State) : (s.sendKeep p).mode = s.mode := by rw [State.sendKeep_frame]
@[simp] theorem State.sendKeep_restartCause (p : Port) (s : State) : (s.sendKeep p).restartCause = s.restartCause := by rw [State.sendKeep_frame]
@[simp] theorem State.sendKeep_checkResult (p : Port) (s : State) : (s.sendKeep p).checkResult = s.checkResult := by rw [State.sendKeep_frame]
@[simp] theorem State.sendKeep_site (p : Port) (s : State) : (s.sendKeep p).site = s.site := by rw [State.sendKeep_frame]
@[simp] theorem State.sendKeep_portTable (p : Port) (s : State) : (s.sendKeep p).portTable = s.portTable := by rw [State.sendKeep_frame]
@[simp] theorem State.sendKeep_restartPending (p : Port) (s : State) : (s.sendKeep p).restartPending = s.restartPending := by rw [State.sendKeep_frame]
@[simp] theorem State.sendKeep_holdingEntries (p : Port) (s : State) : (s.sendKeep p).holdingEntries = s.holdingEntries := by rw [State.sendKeep_frame]
@[simp] theorem State.sendKeep_readProgress (p : Port) (s : State) : (s.sendKeep p).readProgress = s.readProgress := by rw [State.sendKeep_frame]
@[simp] theorem State.sendKeep_frameTimer (p : Port) (s : State) : (s.sendKeep p).frameTimer = s.frameTimer := by rw [State.sendKeep_frame]
@[simp] theorem State.sendKeep_frameNumber (p : Port) (s : State) : (s.sendKeep p).frameNumber = s.frameNumber := by rw [State.sendKeep_frame]
@[simp] theorem State.sendKeep_primingCounter (p : Port) (s : State) : (s.sendKeep p).primingCounter = s.primingCounter := by rw [State.sendKeep_frame]
@[simp] theorem State.sendKeep_reference (p : Port) (s : State) : (s.sendKeep p).reference = s.reference := by rw [State.sendKeep_frame]
@[simp] theorem State.sendKeep_target (p : Port) (s : State) : (s.sendKeep p).target = s.target := by rw [State.sendKeep_frame]
@[simp] theorem State.sendKeep_storageNet (p : Port) (s : State) : (s.sendKeep p).storageNet = s.storageNet := by rw [State.sendKeep_frame]
@[simp] theorem State.sendKeep_excursions (p : Port) (s : State) : (s.sendKeep p).excursions = s.excursions := by rw [State.sendKeep_frame]
@[simp] theorem State.sendKeep_windowConflicts (p : Port) (s : State) : (s.sendKeep p).windowConflicts = s.windowConflicts := by rw [State.sendKeep_frame]
@[simp] theorem State.sendKeep_ring (p : Port) (s : State) : (s.sendKeep p).ring = s.ring := by rw [State.sendKeep_frame]
@[simp] theorem State.sendKeep_windowBase (p : Port) (s : State) : (s.sendKeep p).windowBase = s.windowBase := by rw [State.sendKeep_frame]
@[simp] theorem State.sendKeep_sinceBase (p : Port) (s : State) : (s.sendKeep p).sinceBase = s.sinceBase := by rw [State.sendKeep_frame]
@[simp] theorem State.sendKeep_reseedPending (p : Port) (s : State) : (s.sendKeep p).reseedPending = s.reseedPending := by rw [State.sendKeep_frame]
@[simp] theorem State.sendKeep_complianceLatched (p : Port) (s : State) : (s.sendKeep p).complianceLatched = s.complianceLatched := by rw [State.sendKeep_frame]
@[simp] theorem State.sendKeep_complianceEpisodes (p : Port) (s : State) : (s.sendKeep p).complianceEpisodes = s.complianceEpisodes := by rw [State.sendKeep_frame]
@[simp] theorem State.sendKeep_defaultProfile (p : Port) (s : State) : (s.sendKeep p).defaultProfile = s.defaultProfile := by rw [State.sendKeep_frame]
@[simp] theorem State.sendKeep_entries (p : Port) (s : State) : (s.sendKeep p).entries = s.entries := by rw [State.sendKeep_frame]
@[simp] theorem State.sendKeep_scanTimer (p : Port) (s : State) : (s.sendKeep p).scanTimer = s.scanTimer := by rw [State.sendKeep_frame]
@[simp] theorem State.sendKeep_scan (p : Port) (s : State) : (s.sendKeep p).scan = s.scan := by rw [State.sendKeep_frame]
@[simp] theorem State.sendKeep_channels (p : Port) (s : State) : (s.sendKeep p).channels = s.channels := by rw [State.sendKeep_frame]
@[simp] theorem State.sendKeep_sweepStart (p : Port) (s : State) : (s.sendKeep p).sweepStart = s.sweepStart := by rw [State.sendKeep_frame]
@[simp] theorem State.sendKeep_sweepLfsr (p : Port) (s : State) : (s.sendKeep p).sweepLfsr = s.sweepLfsr := by rw [State.sendKeep_frame]
@[simp] theorem State.sendKeep_sweepOrder (p : Port) (s : State) : (s.sendKeep p).sweepOrder = s.sweepOrder := by rw [State.sendKeep_frame]
@[simp] theorem State.sendKeep_openChoices (p : Port) (s : State) : (s.sendKeep p).openChoices = s.openChoices := by rw [State.sendKeep_frame]
@[simp] theorem State.sendKeep_pending (p : Port) (s : State) : (s.sendKeep p).pending = s.pending := by rw [State.sendKeep_frame]
@[simp] theorem State.sendKeep_config (p : Port) (s : State) (q : Port) : (s.sendKeep p).config q = s.config q := by
  rw [State.sendKeep_frame]; rfl
@[simp] theorem State.sendKeep_channel (p : Port) (s : State) (q : ChannelIndex) : (s.sendKeep p).channel q = s.channel q := by
  rw [State.sendKeep_frame]; rfl
@[simp] theorem State.sendKeep_supervisory (p : Port) (s : State) (q : Port) : (s.sendKeep p).supervisory q = s.supervisory q := by
  simp [State.supervisory, State.openAccess, State.hasSupervisor]


@[simp] theorem State.record_sendRaise (s : State) (p q : Port) (g : Int) :
    (s.sendRaise p g).record q =
      if q = p then { s.record p with committed := g, lastSent := some g } else s.record q := by
  by_cases h : q = p <;> simp [State.sendRaise, h]

@[simp] theorem State.link_sendRaise (s : State) (p q : Port) (g : Int) :
    (s.sendRaise p g).link q = if q = p then (s.link p).enqueue (.limit .raise g s.frameNumber) else s.link q := by
  simp [State.sendRaise]

theorem State.sendRaise_frame (p : Port) (g : Int) (s : State) :
    s.sendRaise p g = { s with records := (s.sendRaise p g).records, links := (s.sendRaise p g).links } := by
  simp only [State.sendRaise, State.sendLimit, State.enqueue, State.setLink, State.setRecord]

@[simp] theorem State.sendRaise_mode (p : Port) (g : Int) (s : State) : (s.sendRaise p g).mode = s.mode := by rw [State.sendRaise_frame]
@[simp] theorem State.sendRaise_restartCause (p : Port) (g : Int) (s : State) : (s.sendRaise p g).restartCause = s.restartCause := by rw [State.sendRaise_frame]
@[simp] theorem State.sendRaise_checkResult (p : Port) (g : Int) (s : State) : (s.sendRaise p g).checkResult = s.checkResult := by rw [State.sendRaise_frame]
@[simp] theorem State.sendRaise_site (p : Port) (g : Int) (s : State) : (s.sendRaise p g).site = s.site := by rw [State.sendRaise_frame]
@[simp] theorem State.sendRaise_portTable (p : Port) (g : Int) (s : State) : (s.sendRaise p g).portTable = s.portTable := by rw [State.sendRaise_frame]
@[simp] theorem State.sendRaise_restartPending (p : Port) (g : Int) (s : State) : (s.sendRaise p g).restartPending = s.restartPending := by rw [State.sendRaise_frame]
@[simp] theorem State.sendRaise_holdingEntries (p : Port) (g : Int) (s : State) : (s.sendRaise p g).holdingEntries = s.holdingEntries := by rw [State.sendRaise_frame]
@[simp] theorem State.sendRaise_readProgress (p : Port) (g : Int) (s : State) : (s.sendRaise p g).readProgress = s.readProgress := by rw [State.sendRaise_frame]
@[simp] theorem State.sendRaise_frameTimer (p : Port) (g : Int) (s : State) : (s.sendRaise p g).frameTimer = s.frameTimer := by rw [State.sendRaise_frame]
@[simp] theorem State.sendRaise_frameNumber (p : Port) (g : Int) (s : State) : (s.sendRaise p g).frameNumber = s.frameNumber := by rw [State.sendRaise_frame]
@[simp] theorem State.sendRaise_primingCounter (p : Port) (g : Int) (s : State) : (s.sendRaise p g).primingCounter = s.primingCounter := by rw [State.sendRaise_frame]
@[simp] theorem State.sendRaise_reference (p : Port) (g : Int) (s : State) : (s.sendRaise p g).reference = s.reference := by rw [State.sendRaise_frame]
@[simp] theorem State.sendRaise_target (p : Port) (g : Int) (s : State) : (s.sendRaise p g).target = s.target := by rw [State.sendRaise_frame]
@[simp] theorem State.sendRaise_storageNet (p : Port) (g : Int) (s : State) : (s.sendRaise p g).storageNet = s.storageNet := by rw [State.sendRaise_frame]
@[simp] theorem State.sendRaise_excursions (p : Port) (g : Int) (s : State) : (s.sendRaise p g).excursions = s.excursions := by rw [State.sendRaise_frame]
@[simp] theorem State.sendRaise_windowConflicts (p : Port) (g : Int) (s : State) : (s.sendRaise p g).windowConflicts = s.windowConflicts := by rw [State.sendRaise_frame]
@[simp] theorem State.sendRaise_ring (p : Port) (g : Int) (s : State) : (s.sendRaise p g).ring = s.ring := by rw [State.sendRaise_frame]
@[simp] theorem State.sendRaise_windowBase (p : Port) (g : Int) (s : State) : (s.sendRaise p g).windowBase = s.windowBase := by rw [State.sendRaise_frame]
@[simp] theorem State.sendRaise_sinceBase (p : Port) (g : Int) (s : State) : (s.sendRaise p g).sinceBase = s.sinceBase := by rw [State.sendRaise_frame]
@[simp] theorem State.sendRaise_reseedPending (p : Port) (g : Int) (s : State) : (s.sendRaise p g).reseedPending = s.reseedPending := by rw [State.sendRaise_frame]
@[simp] theorem State.sendRaise_complianceLatched (p : Port) (g : Int) (s : State) : (s.sendRaise p g).complianceLatched = s.complianceLatched := by rw [State.sendRaise_frame]
@[simp] theorem State.sendRaise_complianceEpisodes (p : Port) (g : Int) (s : State) : (s.sendRaise p g).complianceEpisodes = s.complianceEpisodes := by rw [State.sendRaise_frame]
@[simp] theorem State.sendRaise_defaultProfile (p : Port) (g : Int) (s : State) : (s.sendRaise p g).defaultProfile = s.defaultProfile := by rw [State.sendRaise_frame]
@[simp] theorem State.sendRaise_entries (p : Port) (g : Int) (s : State) : (s.sendRaise p g).entries = s.entries := by rw [State.sendRaise_frame]
@[simp] theorem State.sendRaise_scanTimer (p : Port) (g : Int) (s : State) : (s.sendRaise p g).scanTimer = s.scanTimer := by rw [State.sendRaise_frame]
@[simp] theorem State.sendRaise_scan (p : Port) (g : Int) (s : State) : (s.sendRaise p g).scan = s.scan := by rw [State.sendRaise_frame]
@[simp] theorem State.sendRaise_channels (p : Port) (g : Int) (s : State) : (s.sendRaise p g).channels = s.channels := by rw [State.sendRaise_frame]
@[simp] theorem State.sendRaise_sweepStart (p : Port) (g : Int) (s : State) : (s.sendRaise p g).sweepStart = s.sweepStart := by rw [State.sendRaise_frame]
@[simp] theorem State.sendRaise_sweepLfsr (p : Port) (g : Int) (s : State) : (s.sendRaise p g).sweepLfsr = s.sweepLfsr := by rw [State.sendRaise_frame]
@[simp] theorem State.sendRaise_sweepOrder (p : Port) (g : Int) (s : State) : (s.sendRaise p g).sweepOrder = s.sweepOrder := by rw [State.sendRaise_frame]
@[simp] theorem State.sendRaise_openChoices (p : Port) (g : Int) (s : State) : (s.sendRaise p g).openChoices = s.openChoices := by rw [State.sendRaise_frame]
@[simp] theorem State.sendRaise_pending (p : Port) (g : Int) (s : State) : (s.sendRaise p g).pending = s.pending := by rw [State.sendRaise_frame]
@[simp] theorem State.sendRaise_config (p : Port) (g : Int) (s : State) (q : Port) : (s.sendRaise p g).config q = s.config q := by
  rw [State.sendRaise_frame]; rfl
@[simp] theorem State.sendRaise_channel (p : Port) (g : Int) (s : State) (q : ChannelIndex) : (s.sendRaise p g).channel q = s.channel q := by
  rw [State.sendRaise_frame]; rfl
@[simp] theorem State.sendRaise_supervisory (p : Port) (g : Int) (s : State) (q : Port) : (s.sendRaise p g).supervisory q = s.supervisory q := by
  simp [State.supervisory, State.openAccess, State.hasSupervisor]


@[simp] theorem State.record_acceptFrame (s : State) (p q : Port) :
    (s.acceptFrame p).record q = if q = p then { s.record p with silence := 0 } else s.record q := by
  simp [State.acceptFrame]

@[simp] theorem State.link_acceptFrame (s : State) (p q : Port) :
    (s.acceptFrame p).link q = if q = p then (s.link p).accept else s.link q := by
  simp [State.acceptFrame]

@[simp] theorem State.acceptFrame_supervisory (s : State) (p q : Port) : (s.acceptFrame p).supervisory q = s.supervisory q :=
  State.supervisory_congr (by simp) (by simp) q

@[simp] theorem State.link_withdrawLimit (s : State) (p q : Port) :
    (s.withdrawLimit p).link q =
      if q = p then { s.link p with queue := (s.link p).queue.filter fun m => !m.isLimit } else s.link q := by
  simp [State.withdrawLimit]

@[simp] theorem State.link_dropFormerSets (s before : State) (q : Port) :
    (s.dropFormerSets before).link q =
      if before.supervisory q && !s.supervisory q then { s.link q with notices := [] } else s.link q := by
  simp [State.dropFormerSets]

/-! ### Modes -/

theorem State.changeMode_frame (m : Mode) (s : State) :
    s.changeMode m = { s with mode := m, links := (s.changeMode m).links } := by
  simp only [State.changeMode, State.dropFormerSets, State.raise, State.mapLinks]

@[simp] theorem State.changeMode_restartCause (m : Mode) (s : State) : (s.changeMode m).restartCause = s.restartCause := by rw [State.changeMode_frame]
@[simp] theorem State.changeMode_checkResult (m : Mode) (s : State) : (s.changeMode m).checkResult = s.checkResult := by rw [State.changeMode_frame]
@[simp] theorem State.changeMode_site (m : Mode) (s : State) : (s.changeMode m).site = s.site := by rw [State.changeMode_frame]
@[simp] theorem State.changeMode_portTable (m : Mode) (s : State) : (s.changeMode m).portTable = s.portTable := by rw [State.changeMode_frame]
@[simp] theorem State.changeMode_restartPending (m : Mode) (s : State) : (s.changeMode m).restartPending = s.restartPending := by rw [State.changeMode_frame]
@[simp] theorem State.changeMode_holdingEntries (m : Mode) (s : State) : (s.changeMode m).holdingEntries = s.holdingEntries := by rw [State.changeMode_frame]
@[simp] theorem State.changeMode_readProgress (m : Mode) (s : State) : (s.changeMode m).readProgress = s.readProgress := by rw [State.changeMode_frame]
@[simp] theorem State.changeMode_frameTimer (m : Mode) (s : State) : (s.changeMode m).frameTimer = s.frameTimer := by rw [State.changeMode_frame]
@[simp] theorem State.changeMode_frameNumber (m : Mode) (s : State) : (s.changeMode m).frameNumber = s.frameNumber := by rw [State.changeMode_frame]
@[simp] theorem State.changeMode_primingCounter (m : Mode) (s : State) : (s.changeMode m).primingCounter = s.primingCounter := by rw [State.changeMode_frame]
@[simp] theorem State.changeMode_reference (m : Mode) (s : State) : (s.changeMode m).reference = s.reference := by rw [State.changeMode_frame]
@[simp] theorem State.changeMode_target (m : Mode) (s : State) : (s.changeMode m).target = s.target := by rw [State.changeMode_frame]
@[simp] theorem State.changeMode_storageNet (m : Mode) (s : State) : (s.changeMode m).storageNet = s.storageNet := by rw [State.changeMode_frame]
@[simp] theorem State.changeMode_excursions (m : Mode) (s : State) : (s.changeMode m).excursions = s.excursions := by rw [State.changeMode_frame]
@[simp] theorem State.changeMode_windowConflicts (m : Mode) (s : State) : (s.changeMode m).windowConflicts = s.windowConflicts := by rw [State.changeMode_frame]
@[simp] theorem State.changeMode_ring (m : Mode) (s : State) : (s.changeMode m).ring = s.ring := by rw [State.changeMode_frame]
@[simp] theorem State.changeMode_windowBase (m : Mode) (s : State) : (s.changeMode m).windowBase = s.windowBase := by rw [State.changeMode_frame]
@[simp] theorem State.changeMode_sinceBase (m : Mode) (s : State) : (s.changeMode m).sinceBase = s.sinceBase := by rw [State.changeMode_frame]
@[simp] theorem State.changeMode_reseedPending (m : Mode) (s : State) : (s.changeMode m).reseedPending = s.reseedPending := by rw [State.changeMode_frame]
@[simp] theorem State.changeMode_complianceLatched (m : Mode) (s : State) : (s.changeMode m).complianceLatched = s.complianceLatched := by rw [State.changeMode_frame]
@[simp] theorem State.changeMode_complianceEpisodes (m : Mode) (s : State) : (s.changeMode m).complianceEpisodes = s.complianceEpisodes := by rw [State.changeMode_frame]
@[simp] theorem State.changeMode_defaultProfile (m : Mode) (s : State) : (s.changeMode m).defaultProfile = s.defaultProfile := by rw [State.changeMode_frame]
@[simp] theorem State.changeMode_entries (m : Mode) (s : State) : (s.changeMode m).entries = s.entries := by rw [State.changeMode_frame]
@[simp] theorem State.changeMode_scanTimer (m : Mode) (s : State) : (s.changeMode m).scanTimer = s.scanTimer := by rw [State.changeMode_frame]
@[simp] theorem State.changeMode_scan (m : Mode) (s : State) : (s.changeMode m).scan = s.scan := by rw [State.changeMode_frame]
@[simp] theorem State.changeMode_channels (m : Mode) (s : State) : (s.changeMode m).channels = s.channels := by rw [State.changeMode_frame]
@[simp] theorem State.changeMode_sweepStart (m : Mode) (s : State) : (s.changeMode m).sweepStart = s.sweepStart := by rw [State.changeMode_frame]
@[simp] theorem State.changeMode_sweepLfsr (m : Mode) (s : State) : (s.changeMode m).sweepLfsr = s.sweepLfsr := by rw [State.changeMode_frame]
@[simp] theorem State.changeMode_sweepOrder (m : Mode) (s : State) : (s.changeMode m).sweepOrder = s.sweepOrder := by rw [State.changeMode_frame]
@[simp] theorem State.changeMode_records (m : Mode) (s : State) : (s.changeMode m).records = s.records := by rw [State.changeMode_frame]
@[simp] theorem State.changeMode_openChoices (m : Mode) (s : State) : (s.changeMode m).openChoices = s.openChoices := by rw [State.changeMode_frame]
@[simp] theorem State.changeMode_pending (m : Mode) (s : State) : (s.changeMode m).pending = s.pending := by rw [State.changeMode_frame]
@[simp] theorem State.changeMode_config (m : Mode) (s : State) (q : Port) : (s.changeMode m).config q = s.config q := by
  rw [State.changeMode_frame]; rfl
@[simp] theorem State.changeMode_record (m : Mode) (s : State) (q : Port) : (s.changeMode m).record q = s.record q := by
  rw [State.changeMode_frame]; rfl
@[simp] theorem State.changeMode_channel (m : Mode) (s : State) (q : ChannelIndex) : (s.changeMode m).channel q = s.channel q := by
  rw [State.changeMode_frame]; rfl


@[simp] theorem State.changeMode_mode (m : Mode) (s : State) : (s.changeMode m).mode = m := by
  rw [State.changeMode_frame]

/-! ### Staged raises and silence -/

theorem State.serveStaged_frame (p : Port) (s : State) :
    s.serveStaged p = { s with records := (s.serveStaged p).records, links := (s.serveStaged p).links } := by
  unfold State.serveStaged
  simp only
  split
  · split
    · split
      · rw [State.setRecord, State.sendRaise_frame]
      · rw [State.sendRaise_frame]
    · rfl
  · rfl

@[simp] theorem State.serveStaged_mode (p : Port) (s : State) : (s.serveStaged p).mode = s.mode := by rw [State.serveStaged_frame]
@[simp] theorem State.serveStaged_restartCause (p : Port) (s : State) : (s.serveStaged p).restartCause = s.restartCause := by rw [State.serveStaged_frame]
@[simp] theorem State.serveStaged_checkResult (p : Port) (s : State) : (s.serveStaged p).checkResult = s.checkResult := by rw [State.serveStaged_frame]
@[simp] theorem State.serveStaged_site (p : Port) (s : State) : (s.serveStaged p).site = s.site := by rw [State.serveStaged_frame]
@[simp] theorem State.serveStaged_portTable (p : Port) (s : State) : (s.serveStaged p).portTable = s.portTable := by rw [State.serveStaged_frame]
@[simp] theorem State.serveStaged_restartPending (p : Port) (s : State) : (s.serveStaged p).restartPending = s.restartPending := by rw [State.serveStaged_frame]
@[simp] theorem State.serveStaged_holdingEntries (p : Port) (s : State) : (s.serveStaged p).holdingEntries = s.holdingEntries := by rw [State.serveStaged_frame]
@[simp] theorem State.serveStaged_readProgress (p : Port) (s : State) : (s.serveStaged p).readProgress = s.readProgress := by rw [State.serveStaged_frame]
@[simp] theorem State.serveStaged_frameTimer (p : Port) (s : State) : (s.serveStaged p).frameTimer = s.frameTimer := by rw [State.serveStaged_frame]
@[simp] theorem State.serveStaged_frameNumber (p : Port) (s : State) : (s.serveStaged p).frameNumber = s.frameNumber := by rw [State.serveStaged_frame]
@[simp] theorem State.serveStaged_primingCounter (p : Port) (s : State) : (s.serveStaged p).primingCounter = s.primingCounter := by rw [State.serveStaged_frame]
@[simp] theorem State.serveStaged_reference (p : Port) (s : State) : (s.serveStaged p).reference = s.reference := by rw [State.serveStaged_frame]
@[simp] theorem State.serveStaged_target (p : Port) (s : State) : (s.serveStaged p).target = s.target := by rw [State.serveStaged_frame]
@[simp] theorem State.serveStaged_storageNet (p : Port) (s : State) : (s.serveStaged p).storageNet = s.storageNet := by rw [State.serveStaged_frame]
@[simp] theorem State.serveStaged_excursions (p : Port) (s : State) : (s.serveStaged p).excursions = s.excursions := by rw [State.serveStaged_frame]
@[simp] theorem State.serveStaged_windowConflicts (p : Port) (s : State) : (s.serveStaged p).windowConflicts = s.windowConflicts := by rw [State.serveStaged_frame]
@[simp] theorem State.serveStaged_ring (p : Port) (s : State) : (s.serveStaged p).ring = s.ring := by rw [State.serveStaged_frame]
@[simp] theorem State.serveStaged_windowBase (p : Port) (s : State) : (s.serveStaged p).windowBase = s.windowBase := by rw [State.serveStaged_frame]
@[simp] theorem State.serveStaged_sinceBase (p : Port) (s : State) : (s.serveStaged p).sinceBase = s.sinceBase := by rw [State.serveStaged_frame]
@[simp] theorem State.serveStaged_reseedPending (p : Port) (s : State) : (s.serveStaged p).reseedPending = s.reseedPending := by rw [State.serveStaged_frame]
@[simp] theorem State.serveStaged_complianceLatched (p : Port) (s : State) : (s.serveStaged p).complianceLatched = s.complianceLatched := by rw [State.serveStaged_frame]
@[simp] theorem State.serveStaged_complianceEpisodes (p : Port) (s : State) : (s.serveStaged p).complianceEpisodes = s.complianceEpisodes := by rw [State.serveStaged_frame]
@[simp] theorem State.serveStaged_defaultProfile (p : Port) (s : State) : (s.serveStaged p).defaultProfile = s.defaultProfile := by rw [State.serveStaged_frame]
@[simp] theorem State.serveStaged_entries (p : Port) (s : State) : (s.serveStaged p).entries = s.entries := by rw [State.serveStaged_frame]
@[simp] theorem State.serveStaged_scanTimer (p : Port) (s : State) : (s.serveStaged p).scanTimer = s.scanTimer := by rw [State.serveStaged_frame]
@[simp] theorem State.serveStaged_scan (p : Port) (s : State) : (s.serveStaged p).scan = s.scan := by rw [State.serveStaged_frame]
@[simp] theorem State.serveStaged_channels (p : Port) (s : State) : (s.serveStaged p).channels = s.channels := by rw [State.serveStaged_frame]
@[simp] theorem State.serveStaged_sweepStart (p : Port) (s : State) : (s.serveStaged p).sweepStart = s.sweepStart := by rw [State.serveStaged_frame]
@[simp] theorem State.serveStaged_sweepLfsr (p : Port) (s : State) : (s.serveStaged p).sweepLfsr = s.sweepLfsr := by rw [State.serveStaged_frame]
@[simp] theorem State.serveStaged_sweepOrder (p : Port) (s : State) : (s.serveStaged p).sweepOrder = s.sweepOrder := by rw [State.serveStaged_frame]
@[simp] theorem State.serveStaged_openChoices (p : Port) (s : State) : (s.serveStaged p).openChoices = s.openChoices := by rw [State.serveStaged_frame]
@[simp] theorem State.serveStaged_pending (p : Port) (s : State) : (s.serveStaged p).pending = s.pending := by rw [State.serveStaged_frame]
@[simp] theorem State.serveStaged_config (p : Port) (s : State) (q : Port) : (s.serveStaged p).config q = s.config q := by
  rw [State.serveStaged_frame]; rfl
@[simp] theorem State.serveStaged_channel (p : Port) (s : State) (q : ChannelIndex) : (s.serveStaged p).channel q = s.channel q := by
  rw [State.serveStaged_frame]; rfl
@[simp] theorem State.serveStaged_supervisory (p : Port) (s : State) (q : Port) : (s.serveStaged p).supervisory q = s.supervisory q := by
  simp [State.supervisory, State.openAccess, State.hasSupervisor]


theorem State.foldl_frame {f : State → Port → State}
    (hf : ∀ (s : State) (p : Port), f s p = { s with records := (f s p).records, links := (f s p).links })
    (ps : List Port) (s : State) :
    ps.foldl f s = { s with records := (ps.foldl f s).records, links := (ps.foldl f s).links } := by
  induction ps generalizing s with
  | nil => rfl
  | cons p ps ih =>
    rw [List.foldl_cons, ih (f s p), hf s p]

theorem State.budgetRelease_frame (s : State) :
    s.budgetRelease = { s with records := s.budgetRelease.records, links := s.budgetRelease.links } :=
  State.foldl_frame (fun s p => State.serveStaged_frame p s) _ s

@[simp] theorem State.budgetRelease_mode (s : State) : (s.budgetRelease).mode = s.mode := by rw [State.budgetRelease_frame]
@[simp] theorem State.budgetRelease_restartCause (s : State) : (s.budgetRelease).restartCause = s.restartCause := by rw [State.budgetRelease_frame]
@[simp] theorem State.budgetRelease_checkResult (s : State) : (s.budgetRelease).checkResult = s.checkResult := by rw [State.budgetRelease_frame]
@[simp] theorem State.budgetRelease_site (s : State) : (s.budgetRelease).site = s.site := by rw [State.budgetRelease_frame]
@[simp] theorem State.budgetRelease_portTable (s : State) : (s.budgetRelease).portTable = s.portTable := by rw [State.budgetRelease_frame]
@[simp] theorem State.budgetRelease_restartPending (s : State) : (s.budgetRelease).restartPending = s.restartPending := by rw [State.budgetRelease_frame]
@[simp] theorem State.budgetRelease_holdingEntries (s : State) : (s.budgetRelease).holdingEntries = s.holdingEntries := by rw [State.budgetRelease_frame]
@[simp] theorem State.budgetRelease_readProgress (s : State) : (s.budgetRelease).readProgress = s.readProgress := by rw [State.budgetRelease_frame]
@[simp] theorem State.budgetRelease_frameTimer (s : State) : (s.budgetRelease).frameTimer = s.frameTimer := by rw [State.budgetRelease_frame]
@[simp] theorem State.budgetRelease_frameNumber (s : State) : (s.budgetRelease).frameNumber = s.frameNumber := by rw [State.budgetRelease_frame]
@[simp] theorem State.budgetRelease_primingCounter (s : State) : (s.budgetRelease).primingCounter = s.primingCounter := by rw [State.budgetRelease_frame]
@[simp] theorem State.budgetRelease_reference (s : State) : (s.budgetRelease).reference = s.reference := by rw [State.budgetRelease_frame]
@[simp] theorem State.budgetRelease_target (s : State) : (s.budgetRelease).target = s.target := by rw [State.budgetRelease_frame]
@[simp] theorem State.budgetRelease_storageNet (s : State) : (s.budgetRelease).storageNet = s.storageNet := by rw [State.budgetRelease_frame]
@[simp] theorem State.budgetRelease_excursions (s : State) : (s.budgetRelease).excursions = s.excursions := by rw [State.budgetRelease_frame]
@[simp] theorem State.budgetRelease_windowConflicts (s : State) : (s.budgetRelease).windowConflicts = s.windowConflicts := by rw [State.budgetRelease_frame]
@[simp] theorem State.budgetRelease_ring (s : State) : (s.budgetRelease).ring = s.ring := by rw [State.budgetRelease_frame]
@[simp] theorem State.budgetRelease_windowBase (s : State) : (s.budgetRelease).windowBase = s.windowBase := by rw [State.budgetRelease_frame]
@[simp] theorem State.budgetRelease_sinceBase (s : State) : (s.budgetRelease).sinceBase = s.sinceBase := by rw [State.budgetRelease_frame]
@[simp] theorem State.budgetRelease_reseedPending (s : State) : (s.budgetRelease).reseedPending = s.reseedPending := by rw [State.budgetRelease_frame]
@[simp] theorem State.budgetRelease_complianceLatched (s : State) : (s.budgetRelease).complianceLatched = s.complianceLatched := by rw [State.budgetRelease_frame]
@[simp] theorem State.budgetRelease_complianceEpisodes (s : State) : (s.budgetRelease).complianceEpisodes = s.complianceEpisodes := by rw [State.budgetRelease_frame]
@[simp] theorem State.budgetRelease_defaultProfile (s : State) : (s.budgetRelease).defaultProfile = s.defaultProfile := by rw [State.budgetRelease_frame]
@[simp] theorem State.budgetRelease_entries (s : State) : (s.budgetRelease).entries = s.entries := by rw [State.budgetRelease_frame]
@[simp] theorem State.budgetRelease_scanTimer (s : State) : (s.budgetRelease).scanTimer = s.scanTimer := by rw [State.budgetRelease_frame]
@[simp] theorem State.budgetRelease_scan (s : State) : (s.budgetRelease).scan = s.scan := by rw [State.budgetRelease_frame]
@[simp] theorem State.budgetRelease_channels (s : State) : (s.budgetRelease).channels = s.channels := by rw [State.budgetRelease_frame]
@[simp] theorem State.budgetRelease_sweepStart (s : State) : (s.budgetRelease).sweepStart = s.sweepStart := by rw [State.budgetRelease_frame]
@[simp] theorem State.budgetRelease_sweepLfsr (s : State) : (s.budgetRelease).sweepLfsr = s.sweepLfsr := by rw [State.budgetRelease_frame]
@[simp] theorem State.budgetRelease_sweepOrder (s : State) : (s.budgetRelease).sweepOrder = s.sweepOrder := by rw [State.budgetRelease_frame]
@[simp] theorem State.budgetRelease_openChoices (s : State) : (s.budgetRelease).openChoices = s.openChoices := by rw [State.budgetRelease_frame]
@[simp] theorem State.budgetRelease_pending (s : State) : (s.budgetRelease).pending = s.pending := by rw [State.budgetRelease_frame]
@[simp] theorem State.budgetRelease_config (s : State) (q : Port) : (s.budgetRelease).config q = s.config q := by
  rw [State.budgetRelease_frame]; rfl
@[simp] theorem State.budgetRelease_channel (s : State) (q : ChannelIndex) : (s.budgetRelease).channel q = s.channel q := by
  rw [State.budgetRelease_frame]; rfl
@[simp] theorem State.budgetRelease_supervisory (s : State) (q : Port) : (s.budgetRelease).supervisory q = s.supervisory q := by
  simp [State.supervisory, State.openAccess, State.hasSupervisor]


theorem State.releaseIfFallen_frame (p : Port) (was : Int) (s : State) :
    s.releaseIfFallen p was =
      { s with records := (s.releaseIfFallen p was).records, links := (s.releaseIfFallen p was).links } := by
  unfold State.releaseIfFallen
  split
  · exact State.budgetRelease_frame s
  · rfl

@[simp] theorem State.releaseIfFallen_mode (p : Port) (was : Int) (s : State) : (s.releaseIfFallen p was).mode = s.mode := by rw [State.releaseIfFallen_frame]
@[simp] theorem State.releaseIfFallen_restartCause (p : Port) (was : Int) (s : State) : (s.releaseIfFallen p was).restartCause = s.restartCause := by rw [State.releaseIfFallen_frame]
@[simp] theorem State.releaseIfFallen_checkResult (p : Port) (was : Int) (s : State) : (s.releaseIfFallen p was).checkResult = s.checkResult := by rw [State.releaseIfFallen_frame]
@[simp] theorem State.releaseIfFallen_site (p : Port) (was : Int) (s : State) : (s.releaseIfFallen p was).site = s.site := by rw [State.releaseIfFallen_frame]
@[simp] theorem State.releaseIfFallen_portTable (p : Port) (was : Int) (s : State) : (s.releaseIfFallen p was).portTable = s.portTable := by rw [State.releaseIfFallen_frame]
@[simp] theorem State.releaseIfFallen_restartPending (p : Port) (was : Int) (s : State) : (s.releaseIfFallen p was).restartPending = s.restartPending := by rw [State.releaseIfFallen_frame]
@[simp] theorem State.releaseIfFallen_holdingEntries (p : Port) (was : Int) (s : State) : (s.releaseIfFallen p was).holdingEntries = s.holdingEntries := by rw [State.releaseIfFallen_frame]
@[simp] theorem State.releaseIfFallen_readProgress (p : Port) (was : Int) (s : State) : (s.releaseIfFallen p was).readProgress = s.readProgress := by rw [State.releaseIfFallen_frame]
@[simp] theorem State.releaseIfFallen_frameTimer (p : Port) (was : Int) (s : State) : (s.releaseIfFallen p was).frameTimer = s.frameTimer := by rw [State.releaseIfFallen_frame]
@[simp] theorem State.releaseIfFallen_frameNumber (p : Port) (was : Int) (s : State) : (s.releaseIfFallen p was).frameNumber = s.frameNumber := by rw [State.releaseIfFallen_frame]
@[simp] theorem State.releaseIfFallen_primingCounter (p : Port) (was : Int) (s : State) : (s.releaseIfFallen p was).primingCounter = s.primingCounter := by rw [State.releaseIfFallen_frame]
@[simp] theorem State.releaseIfFallen_reference (p : Port) (was : Int) (s : State) : (s.releaseIfFallen p was).reference = s.reference := by rw [State.releaseIfFallen_frame]
@[simp] theorem State.releaseIfFallen_target (p : Port) (was : Int) (s : State) : (s.releaseIfFallen p was).target = s.target := by rw [State.releaseIfFallen_frame]
@[simp] theorem State.releaseIfFallen_storageNet (p : Port) (was : Int) (s : State) : (s.releaseIfFallen p was).storageNet = s.storageNet := by rw [State.releaseIfFallen_frame]
@[simp] theorem State.releaseIfFallen_excursions (p : Port) (was : Int) (s : State) : (s.releaseIfFallen p was).excursions = s.excursions := by rw [State.releaseIfFallen_frame]
@[simp] theorem State.releaseIfFallen_windowConflicts (p : Port) (was : Int) (s : State) : (s.releaseIfFallen p was).windowConflicts = s.windowConflicts := by rw [State.releaseIfFallen_frame]
@[simp] theorem State.releaseIfFallen_ring (p : Port) (was : Int) (s : State) : (s.releaseIfFallen p was).ring = s.ring := by rw [State.releaseIfFallen_frame]
@[simp] theorem State.releaseIfFallen_windowBase (p : Port) (was : Int) (s : State) : (s.releaseIfFallen p was).windowBase = s.windowBase := by rw [State.releaseIfFallen_frame]
@[simp] theorem State.releaseIfFallen_sinceBase (p : Port) (was : Int) (s : State) : (s.releaseIfFallen p was).sinceBase = s.sinceBase := by rw [State.releaseIfFallen_frame]
@[simp] theorem State.releaseIfFallen_reseedPending (p : Port) (was : Int) (s : State) : (s.releaseIfFallen p was).reseedPending = s.reseedPending := by rw [State.releaseIfFallen_frame]
@[simp] theorem State.releaseIfFallen_complianceLatched (p : Port) (was : Int) (s : State) : (s.releaseIfFallen p was).complianceLatched = s.complianceLatched := by rw [State.releaseIfFallen_frame]
@[simp] theorem State.releaseIfFallen_complianceEpisodes (p : Port) (was : Int) (s : State) : (s.releaseIfFallen p was).complianceEpisodes = s.complianceEpisodes := by rw [State.releaseIfFallen_frame]
@[simp] theorem State.releaseIfFallen_defaultProfile (p : Port) (was : Int) (s : State) : (s.releaseIfFallen p was).defaultProfile = s.defaultProfile := by rw [State.releaseIfFallen_frame]
@[simp] theorem State.releaseIfFallen_entries (p : Port) (was : Int) (s : State) : (s.releaseIfFallen p was).entries = s.entries := by rw [State.releaseIfFallen_frame]
@[simp] theorem State.releaseIfFallen_scanTimer (p : Port) (was : Int) (s : State) : (s.releaseIfFallen p was).scanTimer = s.scanTimer := by rw [State.releaseIfFallen_frame]
@[simp] theorem State.releaseIfFallen_scan (p : Port) (was : Int) (s : State) : (s.releaseIfFallen p was).scan = s.scan := by rw [State.releaseIfFallen_frame]
@[simp] theorem State.releaseIfFallen_channels (p : Port) (was : Int) (s : State) : (s.releaseIfFallen p was).channels = s.channels := by rw [State.releaseIfFallen_frame]
@[simp] theorem State.releaseIfFallen_sweepStart (p : Port) (was : Int) (s : State) : (s.releaseIfFallen p was).sweepStart = s.sweepStart := by rw [State.releaseIfFallen_frame]
@[simp] theorem State.releaseIfFallen_sweepLfsr (p : Port) (was : Int) (s : State) : (s.releaseIfFallen p was).sweepLfsr = s.sweepLfsr := by rw [State.releaseIfFallen_frame]
@[simp] theorem State.releaseIfFallen_sweepOrder (p : Port) (was : Int) (s : State) : (s.releaseIfFallen p was).sweepOrder = s.sweepOrder := by rw [State.releaseIfFallen_frame]
@[simp] theorem State.releaseIfFallen_openChoices (p : Port) (was : Int) (s : State) : (s.releaseIfFallen p was).openChoices = s.openChoices := by rw [State.releaseIfFallen_frame]
@[simp] theorem State.releaseIfFallen_pending (p : Port) (was : Int) (s : State) : (s.releaseIfFallen p was).pending = s.pending := by rw [State.releaseIfFallen_frame]
@[simp] theorem State.releaseIfFallen_config (p : Port) (was : Int) (s : State) (q : Port) : (s.releaseIfFallen p was).config q = s.config q := by
  rw [State.releaseIfFallen_frame]; rfl
@[simp] theorem State.releaseIfFallen_channel (p : Port) (was : Int) (s : State) (q : ChannelIndex) : (s.releaseIfFallen p was).channel q = s.channel q := by
  rw [State.releaseIfFallen_frame]; rfl
@[simp] theorem State.releaseIfFallen_supervisory (p : Port) (was : Int) (s : State) (q : Port) : (s.releaseIfFallen p was).supervisory q = s.supervisory q := by
  simp [State.supervisory, State.openAccess, State.hasSupervisor]


theorem State.silencePort_frame (p : Port) (s : State) :
    s.silencePort p = { s with records := (s.silencePort p).records, links := (s.silencePort p).links } := by
  unfold State.silencePort
  split
  · simp only [State.setRecord, State.raise, State.mapLinks]
  · rfl

@[simp] theorem State.silencePort_mode (p : Port) (s : State) : (s.silencePort p).mode = s.mode := by rw [State.silencePort_frame]
@[simp] theorem State.silencePort_restartCause (p : Port) (s : State) : (s.silencePort p).restartCause = s.restartCause := by rw [State.silencePort_frame]
@[simp] theorem State.silencePort_checkResult (p : Port) (s : State) : (s.silencePort p).checkResult = s.checkResult := by rw [State.silencePort_frame]
@[simp] theorem State.silencePort_site (p : Port) (s : State) : (s.silencePort p).site = s.site := by rw [State.silencePort_frame]
@[simp] theorem State.silencePort_portTable (p : Port) (s : State) : (s.silencePort p).portTable = s.portTable := by rw [State.silencePort_frame]
@[simp] theorem State.silencePort_restartPending (p : Port) (s : State) : (s.silencePort p).restartPending = s.restartPending := by rw [State.silencePort_frame]
@[simp] theorem State.silencePort_holdingEntries (p : Port) (s : State) : (s.silencePort p).holdingEntries = s.holdingEntries := by rw [State.silencePort_frame]
@[simp] theorem State.silencePort_readProgress (p : Port) (s : State) : (s.silencePort p).readProgress = s.readProgress := by rw [State.silencePort_frame]
@[simp] theorem State.silencePort_frameTimer (p : Port) (s : State) : (s.silencePort p).frameTimer = s.frameTimer := by rw [State.silencePort_frame]
@[simp] theorem State.silencePort_frameNumber (p : Port) (s : State) : (s.silencePort p).frameNumber = s.frameNumber := by rw [State.silencePort_frame]
@[simp] theorem State.silencePort_primingCounter (p : Port) (s : State) : (s.silencePort p).primingCounter = s.primingCounter := by rw [State.silencePort_frame]
@[simp] theorem State.silencePort_reference (p : Port) (s : State) : (s.silencePort p).reference = s.reference := by rw [State.silencePort_frame]
@[simp] theorem State.silencePort_target (p : Port) (s : State) : (s.silencePort p).target = s.target := by rw [State.silencePort_frame]
@[simp] theorem State.silencePort_storageNet (p : Port) (s : State) : (s.silencePort p).storageNet = s.storageNet := by rw [State.silencePort_frame]
@[simp] theorem State.silencePort_excursions (p : Port) (s : State) : (s.silencePort p).excursions = s.excursions := by rw [State.silencePort_frame]
@[simp] theorem State.silencePort_windowConflicts (p : Port) (s : State) : (s.silencePort p).windowConflicts = s.windowConflicts := by rw [State.silencePort_frame]
@[simp] theorem State.silencePort_ring (p : Port) (s : State) : (s.silencePort p).ring = s.ring := by rw [State.silencePort_frame]
@[simp] theorem State.silencePort_windowBase (p : Port) (s : State) : (s.silencePort p).windowBase = s.windowBase := by rw [State.silencePort_frame]
@[simp] theorem State.silencePort_sinceBase (p : Port) (s : State) : (s.silencePort p).sinceBase = s.sinceBase := by rw [State.silencePort_frame]
@[simp] theorem State.silencePort_reseedPending (p : Port) (s : State) : (s.silencePort p).reseedPending = s.reseedPending := by rw [State.silencePort_frame]
@[simp] theorem State.silencePort_complianceLatched (p : Port) (s : State) : (s.silencePort p).complianceLatched = s.complianceLatched := by rw [State.silencePort_frame]
@[simp] theorem State.silencePort_complianceEpisodes (p : Port) (s : State) : (s.silencePort p).complianceEpisodes = s.complianceEpisodes := by rw [State.silencePort_frame]
@[simp] theorem State.silencePort_defaultProfile (p : Port) (s : State) : (s.silencePort p).defaultProfile = s.defaultProfile := by rw [State.silencePort_frame]
@[simp] theorem State.silencePort_entries (p : Port) (s : State) : (s.silencePort p).entries = s.entries := by rw [State.silencePort_frame]
@[simp] theorem State.silencePort_scanTimer (p : Port) (s : State) : (s.silencePort p).scanTimer = s.scanTimer := by rw [State.silencePort_frame]
@[simp] theorem State.silencePort_scan (p : Port) (s : State) : (s.silencePort p).scan = s.scan := by rw [State.silencePort_frame]
@[simp] theorem State.silencePort_channels (p : Port) (s : State) : (s.silencePort p).channels = s.channels := by rw [State.silencePort_frame]
@[simp] theorem State.silencePort_sweepStart (p : Port) (s : State) : (s.silencePort p).sweepStart = s.sweepStart := by rw [State.silencePort_frame]
@[simp] theorem State.silencePort_sweepLfsr (p : Port) (s : State) : (s.silencePort p).sweepLfsr = s.sweepLfsr := by rw [State.silencePort_frame]
@[simp] theorem State.silencePort_sweepOrder (p : Port) (s : State) : (s.silencePort p).sweepOrder = s.sweepOrder := by rw [State.silencePort_frame]
@[simp] theorem State.silencePort_openChoices (p : Port) (s : State) : (s.silencePort p).openChoices = s.openChoices := by rw [State.silencePort_frame]
@[simp] theorem State.silencePort_pending (p : Port) (s : State) : (s.silencePort p).pending = s.pending := by rw [State.silencePort_frame]
@[simp] theorem State.silencePort_config (p : Port) (s : State) (q : Port) : (s.silencePort p).config q = s.config q := by
  rw [State.silencePort_frame]; rfl
@[simp] theorem State.silencePort_channel (p : Port) (s : State) (q : ChannelIndex) : (s.silencePort p).channel q = s.channel q := by
  rw [State.silencePort_frame]; rfl
@[simp] theorem State.silencePort_supervisory (p : Port) (s : State) (q : Port) : (s.silencePort p).supervisory q = s.supervisory q := by
  simp [State.supervisory, State.openAccess, State.hasSupervisor]


/-! ### Windows, channels and byte layouts -/

/-- The lowest of a list is its least value, or the stand-in where it is empty (R14, R30, R63). -/
theorem lowest_eq (standIn : Int) (vs : List Int) : lowest standIn vs = vs.min?.getD standIn := by
  cases vs <;> simp [lowest, leastOf, List.min?]

/-- The highest of a list is its greatest value, or the stand-in where it is empty (R14, R30, R63). -/
theorem highest_eq (standIn : Int) (vs : List Int) : highest standIn vs = vs.max?.getD standIn := by
  cases vs <;> simp [highest, greatestOf, List.max?]

/-- A missing sample counts at its channel, and raises METER_LOST and moves GOVERNING to HOLDING exactly where it loses the meter (R62, R65, R67). -/
theorem State.missChannel_cases (s : State) (i : ChannelIndex) :
    let missed := s.setChannel i (s.channel i).takeMissing
    let noticed := missed.raise (.meterLost i (s.channel i).config.missLimit)
    ((s.channel i).losesMeter = false ∧ s.missChannel i = missed) ∨
      ((s.channel i).losesMeter = true ∧ s.mode ≠ .governing ∧ s.missChannel i = noticed) ∨
      ((s.channel i).losesMeter = true ∧ s.mode = .governing ∧ s.missChannel i = noticed.enterHolding) := by
  cases h : (s.channel i).losesMeter <;> by_cases hm : s.mode = .governing <;>
    simp [State.missChannel, State.meterLoss, h, hm]

/-- A number sent in `n` bytes: byte `k` is the one above `n - 1 - k` others (R157). -/
theorem bigEndian_eq (n : Nat) (v : Int) :
    bigEndian n v = (List.range n).map fun k => BitVec.ofInt 8 (v / 256 ^ (n - 1 - k)) := by
  induction n with
  | zero => rfl
  | succ n ih =>
    rw [List.range_succ_eq_map, List.map_cons, List.map_map, bigEndian, ih]
    congr 1
    refine List.map_congr_left fun k _ => ?_
    simp only [Function.comp_apply]
    congr 3
    omega

/-- A field of a layout carries its number where the bytes before it are `before` (R157). -/
theorem carries_bigEndian (before after : List Byte) (n : Nat) (v : Int) :
    carries (before ++ (bigEndian n v ++ after)) before.length n v := by
  rw [carries, List.drop_left, bigEndian_eq, List.take_left' (by simp)]

/-! ### The end of an event -/

@[simp] theorem State.settle_pending (s : State) : s.settle.pending = s.pending := by
  unfold State.settle State.takeRestart
  split <;> simp [State.restarted]

/-- One bit of the CRC, on a register with the bits still to come merged into it (R135). -/
theorem crcBit_xor (crc m : BitVec 16) : crcBit (crc ^^^ m) = crcShift crc m.msb ^^^ (m <<< 1) := by
  unfold crcBit crcShift
  rw [BitVec.msb_eq_getLsbD_last, BitVec.msb_eq_getLsbD_last]
  simp only [BitVec.getLsbD_xor, BitVec.shiftLeft_xor_distrib]
  cases crc.getLsbD (16 - 1) <;> cases m.getLsbD (16 - 1) <;> simp <;> ac_rfl

/-- One byte of the CRC is its eight bits, most significant first (R135). -/
theorem crcByte_eq (crc : BitVec 16) (b : Byte) :
    crcByte crc b = [7, 6, 5, 4, 3, 2, 1, 0].foldl (fun r i => crcShift r (b.getLsbD i)) crc := by
  have gone : b.zeroExtend 16 <<< 8 <<< 1 <<< 1 <<< 1 <<< 1 <<< 1 <<< 1 <<< 1 <<< 1 = 0#16 := by ext; simp
  simp only [crcByte, List.foldl, crcBit_xor, BitVec.msb_eq_getLsbD_last, gone]
  simp [crcShift]

end Sys2Proof.Machine
end

