-- ==== Sys2Proof/Laws/PerInstr.lean ====
section
/-! SUPPORT. The family of laws that is stated of each command: what a command's frame is spelled with (R146, R151, R157). -/

namespace Sys2Proof.Laws.FrameSpelling

/-- A command that is the arrival of a request's frame is well formed, its kind is one a master may send, and its payload is no longer than the
longest of the table, 29 bytes: the LEN byte spells its length and no receiver rejects it (R147, R151, R157). -/
def Statement (i : Instr) : Prop :=
  ∀ p r, i.request = some (p, r) → i.wellFormed = true ∧ isRequestKind r.kind = true ∧ r.payload.length ≤ 29

/-- `n` bytes of a number are `n` bytes. -/
@[simp] theorem length_bigEndian (n : Nat) (v : Int) : (bigEndian n v).length = n := by
  induction n with
  | zero => rfl
  | succ n ih => simp [bigEndian, ih]

/-- A field of `n` bytes is sent as `n` bytes. -/
@[simp] theorem length_sendField {w : Nat} (n : Nat) (v : BitVec w) : (sendField n v).length = n := length_bigEndian n _

/-- A profile block is sent as 26 bytes (R157). -/
@[simp] theorem length_sendProfileBlock (b : ProfileBlock) : (sendProfileBlock b).length = 26 := by simp [sendProfileBlock]

/-- The longest payload of a request is that of PUSH (R157). -/
theorem payload_length_le (r : Request) : r.payload.length ≤ 29 := by cases r <;> simp [Request.payload]

/-- Every request's kind is one a master may send (R151, check 1). -/
theorem kind_isRequestKind (r : Request) : isRequestKind r.kind = true := by cases r <;> rfl

/-- A well-formed command that is no request's frame, or is one, has the law. -/
theorem of_wellFormed {i : Instr} (h : (i.request).isSome = true → i.wellFormed = true) : Statement i := fun _ r hr =>
  ⟨h (by rw [hr]; rfl), kind_isRequestKind r, payload_length_le r⟩

theorem powerOn : Statement .powerOn :=
  of_wellFormed (by simp [Instr.request, Instr.wellFormed])

theorem resetLine : Statement .resetLine :=
  of_wellFormed (by simp [Instr.request, Instr.wellFormed])

theorem configReadComplete (memory : List Byte) : Statement (.configReadComplete memory) :=
  of_wellFormed (by simp [Instr.request, Instr.wellFormed])

theorem frameExpiry : Statement .frameExpiry :=
  of_wellFormed (by simp [Instr.request, Instr.wellFormed])

theorem primingEnd : Statement .primingEnd :=
  of_wellFormed (by simp [Instr.request, Instr.wellFormed])

theorem profileActivation (position : Nat) : Statement (.profileActivation position) :=
  of_wellFormed (by simp [Instr.request, Instr.wellFormed])

theorem profileExpiry (position : Nat) : Statement (.profileExpiry position) :=
  of_wellFormed (by simp [Instr.request, Instr.wellFormed])

theorem yieldTimeout (port : Port) : Statement (.yieldTimeout port) :=
  of_wellFormed (by simp [Instr.request, Instr.wellFormed])

theorem silenceTimeout (port : Port) : Statement (.silenceTimeout port) :=
  of_wellFormed (by simp [Instr.request, Instr.wellFormed])

theorem scanExpiry : Statement .scanExpiry :=
  of_wellFormed (by simp [Instr.request, Instr.wellFormed])

theorem sampleReceived (high mid low status : Byte) : Statement (.sampleReceived high mid low status) :=
  of_wellFormed (by simp [Instr.request, Instr.wellFormed])

theorem converterAnswerTimeout : Statement .converterAnswerTimeout :=
  of_wellFormed (by simp [Instr.request, Instr.wellFormed])

theorem frameRejected (port : Port) : Statement (.frameRejected port) :=
  of_wellFormed (by simp [Instr.request, Instr.wellFormed])

theorem interByteGapTimeout (port : Port) : Statement (.interByteGapTimeout port) :=
  of_wellFormed (by simp [Instr.request, Instr.wellFormed])

theorem unknownKind (port : Port) (kind : Byte) (payload : List Byte) : Statement (.unknownKind port kind payload) :=
  of_wellFormed (by simp [Instr.request, Instr.wellFormed])

theorem join (port : Port) (role : Byte) : Statement (.join port role) :=
  of_wellFormed (by simp [Instr.request, Instr.wellFormed])

theorem reportCluster (port : Port) (output available applied : BitVec 32) : Statement (.reportCluster port output available applied) :=
  of_wellFormed (by simp [Instr.request, Instr.wellFormed])

theorem reportStorage (port : Port) (applied discharge charge soe capacity : BitVec 32) : Statement (.reportStorage port applied discharge charge soe capacity) :=
  of_wellFormed (by simp [Instr.request, Instr.wellFormed])

theorem yield (port : Port) (value : BitVec 32) : Statement (.yield port value) :=
  of_wellFormed (by simp [Instr.request, Instr.wellFormed])

theorem leave (port : Port) : Statement (.leave port) :=
  of_wellFormed (by simp [Instr.request, Instr.wellFormed])

theorem push (port : Port) (block : ProfileBlock) (delay : Byte) (expiry : BitVec 16) : Statement (.push port block delay expiry) :=
  of_wellFormed (by simp [Instr.request, Instr.wellFormed])

theorem drop (port : Port) : Statement (.drop port) :=
  of_wellFormed (by simp [Instr.request, Instr.wellFormed])

theorem queryStatus (port : Port) (index : BitVec 16) (count : Byte) : Statement (.queryStatus port index count) :=
  of_wellFormed (by simp [Instr.request, Instr.wellFormed])

theorem queryPort (port : Port) (index : BitVec 16) (count : Byte) : Statement (.queryPort port index count) :=
  of_wellFormed (by simp [Instr.request, Instr.wellFormed])

theorem queryHistory (port : Port) (index : BitVec 16) (count : Byte) : Statement (.queryHistory port index count) :=
  of_wellFormed (by simp [Instr.request, Instr.wellFormed])

theorem queryChannel (port : Port) (index : BitVec 16) (count : Byte) : Statement (.queryChannel port index count) :=
  of_wellFormed (by simp [Instr.request, Instr.wellFormed])

theorem queryList (port : Port) (index : BitVec 16) (count : Byte) : Statement (.queryList port index count) :=
  of_wellFormed (by simp [Instr.request, Instr.wellFormed])

theorem queryCounters (port : Port) (index : BitVec 16) (count : Byte) : Statement (.queryCounters port index count) :=
  of_wellFormed (by simp [Instr.request, Instr.wellFormed])

theorem setSite (port : Port) (fields : SiteFields) : Statement (.setSite port fields) :=
  of_wellFormed (by simp [Instr.request, Instr.wellFormed])

theorem setPort (port : Port) (fields : PortFields) : Statement (.setPort port fields) :=
  of_wellFormed (by simp [Instr.request, Instr.wellFormed])

theorem setChan (port : Port) (fields : ChannelFields) : Statement (.setChan port fields) :=
  of_wellFormed (by simp [Instr.request, Instr.wellFormed])

theorem setProf (port : Port) (block : ProfileBlock) : Statement (.setProf port block) :=
  of_wellFormed (by simp [Instr.request, Instr.wellFormed])

theorem modeRun (port : Port) : Statement (.modeRun port) :=
  of_wellFormed (by simp [Instr.request, Instr.wellFormed])

theorem modeStandby (port : Port) : Statement (.modeStandby port) :=
  of_wellFormed (by simp [Instr.request, Instr.wellFormed])

theorem clearCounters (port : Port) (channel : Byte) : Statement (.clearCounters port channel) :=
  of_wellFormed (by simp [Instr.request, Instr.wellFormed])

theorem clearAlarms (port : Port) (channel : Byte) : Statement (.clearAlarms port channel) :=
  of_wellFormed (by simp [Instr.request, Instr.wellFormed])

theorem clearNotices (port : Port) (channel : Byte) : Statement (.clearNotices port channel) :=
  of_wellFormed (by simp [Instr.request, Instr.wellFormed])

theorem restart (port : Port) : Statement (.restart port) :=
  of_wellFormed (by simp [Instr.request, Instr.wellFormed])

theorem restartTaken : Statement .restartTaken :=
  of_wellFormed (by simp [Instr.request, Instr.wellFormed])

theorem transmitComplete (port : Port) : Statement (.transmitComplete port) :=
  of_wellFormed (by simp [Instr.request, Instr.wellFormed])

theorem linkByteReceived (port : Port) (byte : Byte) (stopBit : Bool) : Statement (.linkByteReceived port byte stopBit) :=
  of_wellFormed (by simp [Instr.request, Instr.wellFormed])

end Sys2Proof.Laws.FrameSpelling
end

