-- ==== Sys2Proof/Laws/Requests.lean ====
section
/-! SUPPORT. How a request's effect is put together: its frame accepted, messages queued, notices raised. -/

namespace Sys2Proof.Machine

/-- A command that is a request's frame does what the receipt of that request does. -/
theorem exec_of_request {c : Instr} {p : Port} {r : Request} (h : c.request = some (p, r)) (s : State) :
    exec c s = .next (s.receive p r) := by
  cases c <;> simp [Instr.request] at h
  all_goals (obtain ⟨rfl, rfl⟩ := h; rfl)

/-- The role check in the manual's words (R140, R152). -/
theorem State.allows_iff (s : State) (p : Port) (r : Request) : s.allows p r = true ↔ s.MayAsk p r := by
  unfold State.allows State.MayAsk
  split
  · cases h : (s.config p).role <;> simp [Role.steerable]
  · exact s.supervises_iff p

theorem State.allows_eq_false_iff (s : State) (p : Port) (r : Request) : s.allows p r = false ↔ ¬s.MayAsk p r := by
  rw [← State.allows_iff]; simp

@[simp] theorem State.allows_acceptFrame (s : State) (p q : Port) (r : Request) : (s.acceptFrame p).allows q r = s.allows q r := by
  simp [State.allows]

theorem State.config_rest (s : State) (p : Port) : (s.config p).rest = s.fbOrZero p := by
  unfold PortConfig.rest State.fbOrZero
  cases (s.config p).role <;> simp

/-- Queueing and raising touch different parts of a link. -/
theorem LinkPort.enqueue_raise (l : LinkPort) (m : Message) (n : Notice) : (l.raise n).enqueue m = (l.enqueue m).raise n := by
  unfold LinkPort.raise LinkPort.enqueue
  by_cases h : l.up = true <;> simp [h]

theorem State.notified_enqueue (s : State) (ns : List Notice) (q : Port) (l : LinkPort) (m : Message) :
    (s.notified ns q l).enqueue m = s.notified ns q (l.enqueue m) := by
  unfold State.notified
  split
  · induction ns generalizing l with
    | nil => rfl
    | cons n ns ih => rw [List.foldl_cons, ih, LinkPort.enqueue_raise, List.foldl_cons]
  · rfl

theorem State.linkAfter_only_append (s : State) (p q : Port) (ms : List Message) (m : Message) :
    s.linkAfter p (only p (ms ++ [m])) q =
      if q = p then (s.linkAfter p (only p ms) q).enqueue m else s.linkAfter p (only p ms) q := by
  by_cases h : q = p <;> simp [State.linkAfter, only, h]

theorem State.Answers.supervisory {s base w : State} {p : Port} {ms : List Message} {ns : List Notice}
    (h : s.Answers base w p ms ns) (q : Port) : w.supervisory q = base.supervisory q := by
  rw [h.rest]
  exact State.supervisory_congr rfl rfl q

/-- An accepted frame, before anything is made of it. -/
theorem State.answers_acceptFrame (s : State) (p : Port) : s.Answers s (s.acceptFrame p) p [] [] where
  links q := by
    by_cases h : q = p <;> simp [State.notified_nil, State.linkAfter, only, h]
  heard := by simp
  others q h := by simp [h]
  rest := by simp only [State.acceptFrame, State.setRecord, State.setLink]

theorem State.Answers.enqueue {s base w : State} {p : Port} {ms : List Message} {ns : List Notice}
    (h : s.Answers base w p ms ns) (m : Message) : s.Answers base (w.enqueue p m) p (ms ++ [m]) ns where
  links q := by
    rw [State.link_enqueue, State.linkAfter_only_append, h.links, h.links]
    by_cases hq : q = p
    · subst hq; simp [State.notified_enqueue]
    · simp [hq]
  heard := by simp [h.heard]
  others q hq := by simp [h.others q hq]
  rest := by rw [State.enqueue, State.setLink]; rw [h.rest]

theorem State.Answers.ack {s base w : State} {p : Port} {ms : List Message} {ns : List Notice}
    (h : s.Answers base w p ms ns) (k : Byte) : s.Answers base (w.ack p k) p (ms ++ [.ack k false false]) ns :=
  h.enqueue _

theorem State.Answers.nak {s base w : State} {p : Port} {ms : List Message} {ns : List Notice}
    (h : s.Answers base w p ms ns) (k : Byte) (r : NakReason) : s.Answers base (w.nak p k r) p (ms ++ [.nak k r]) ns :=
  h.enqueue _

theorem State.Answers.raise {s base w : State} {p : Port} {ms : List Message} {ns : List Notice}
    (h : s.Answers base w p ms ns) (n : Notice) : s.Answers base (w.raise n) p ms (ns ++ [n]) where
  links q := by
    rw [State.link_raise, h.supervisory, h.links, State.notified_append]
    by_cases hq : base.supervisory q = true <;> simp [State.notified, hq]
  heard := by simp [h.heard]
  others q hq := by simp [h.others q hq]
  rest := by rw [State.raise_frame]; rw [h.rest]

@[simp] theorem State.setRecord_supervisory (s : State) (p q : Port) (r : PortRecord) :
    (s.setRecord p r).supervisory q = s.supervisory q :=
  State.supervisory_congr (by simp) (by simp) q

/-- The record of the port written: in the effect with its silence count as the effect has it, in the answer with that count at 0. -/
theorem State.Answers.setRecord {s base w : State} {p : Port} {ms : List Message} {ns : List Notice}
    (h : s.Answers base w p ms ns) {r r' : PortRecord} (hr : r' = { r with silence := 0 }) :
    s.Answers (base.setRecord p r) (w.setRecord p r') p ms ns where
  links q := by
    rw [State.setRecord_link, h.links]
    simp [State.notified]
  heard := by simp [hr]
  others q hq := by simp [hq, h.others q hq]
  rest := by rw [State.setRecord, State.setRecord]; rw [h.rest]

/-- LIMIT queued: an answer of the port, and its last-sent value in the effect. -/
theorem State.Answers.sendLimit {s base w : State} {p : Port} {ms : List Message} {ns : List Notice}
    (h : s.Answers base w p ms ns) (a : LimitAction) (v : Int) :
    s.Answers (base.setRecord p { base.record p with lastSent := some v }) (w.sendLimit p a v) p
      (ms ++ [.limit a v base.frameNumber]) ns := by
  have hf : w.frameNumber = base.frameNumber := by rw [h.rest]
  rw [State.sendLimit, hf]
  refine (h.setRecord ?_).enqueue _
  rw [h.heard]

/-- The same answer over another effect, where that effect is no matter of links, records or standing. -/
theorem State.Answers.rebase {s base w base' w' : State} {p : Port} {ms : List Message} {ns : List Notice}
    (h : s.Answers base w p ms ns) (hw : w' = { base' with links := w.links, records := w.records })
    (hr : base'.records = base.records) (hm : base'.mode = base.mode) (ht : base'.portTable = base.portTable) :
    s.Answers base' w' p ms ns where
  links q := by
    have : w'.link q = w.link q := by rw [hw]; rfl
    rw [this, h.links]
    simp only [State.notified, State.supervisory_congr hm ht]
  heard := by
    have h1 : w'.record p = w.record p := by rw [hw]; rfl
    have h2 : base'.record p = base.record p := by simp only [State.record, hr]
    rw [h1, h2, h.heard]
  others q hq := by
    have h1 : w'.record q = w.record q := by rw [hw]; rfl
    have h2 : base'.record q = base.record q := by simp only [State.record, hr]
    rw [h1, h2, h.others q hq]
  rest := by
    rw [hw]

/-- A counter advances by one below its limit (R163). -/
theorem advance_eq (n : Nat) : advance n = n + if n < 65535 then 1 else 0 := by
  simp only [advance, countUp, Config.counterLimit]; split <;> simp [*]

theorem countUp_eq (limit n : Nat) : countUp limit n = n + if n < limit then 1 else 0 := by
  simp only [countUp]; split <;> simp [*]

/-- A clamp between bounds in order. -/
theorem clamp_eq {a b : Int} (h : a ≤ b) (v : Int) : clamp a b v = max a (min v b) := by
  unfold clamp; split <;> [omega; split <;> omega]

/-- The record of the port written and a LIMIT queued: what `sendLower` and `sendKeep` make of an answer. -/
theorem State.Answers.setRecord_sendLimit {s base w : State} {p : Port} {ms : List Message} {ns : List Notice}
    (h : s.Answers base w p ms ns) {r r' : PortRecord} (a : LimitAction) (v : Int)
    (hr : { r' with lastSent := some v } = { r with silence := 0 }) :
    s.Answers (base.setRecord p r) ((w.setRecord p r').sendLimit p a v) p (ms ++ [.limit a v base.frameNumber]) ns := by
  have hf : (w.setRecord p r').frameNumber = base.frameNumber := by rw [State.setRecord_frameNumber, h.rest]
  rw [State.sendLimit, hf, State.record_setRecord, if_pos rfl]
  have : (w.setRecord p r').setRecord p { r' with lastSent := some v } = w.setRecord p { r' with lastSent := some v } := by
    simp [State.setRecord, Vector.set_set]
  rw [this]
  exact (h.setRecord hr).enqueue _

/-- One NAK, and nothing else. -/
theorem State.answers_nak (s : State) (p : Port) (k : Byte) (r : NakReason) :
    s.Answers s ((s.acceptFrame p).nak p k r) p [.nak k r] [] :=
  (s.answers_acceptFrame p).nak k r

/-- One ACK, and nothing else. -/
theorem State.answers_ack (s : State) (p : Port) (k : Byte) :
    s.Answers s ((s.acceptFrame p).ack p k) p [.ack k false false] [] :=
  (s.answers_acceptFrame p).ack k

/-- A request of its own length, outside LOADING, allowed to its port and not a JOIN that claims another role, is taken by its owner
(R151). -/
theorem State.judge_taken {s : State} {p : Port} {r : Request} (hl : lengthFits (s.config p).role r = true)
    (hm : s.mode ≠ .loading) (ha : s.MayAsk p r) (hc : claimFits (s.config p).role r = true) : s.judge p r = s.take p r := by
  have := (s.allows_iff p r).2 ha
  simp [State.judge, hl, hm, this, hc]

/-- The receipt of a request that its owner takes. -/
theorem State.receive_taken {s : State} {p : Port} {r : Request} (hl : lengthFits (s.config p).role r = true)
    (hm : s.mode ≠ .loading) (ha : s.MayAsk p r) (hc : claimFits (s.config p).role r = true) :
    s.receive p r = ((s.acceptFrame p).take p r).settle := by
  unfold State.receive
  rw [State.judge_taken (by simpa using hl) (by simpa using hm) ?_ (by simpa using hc)]
  rw [← State.allows_iff] at ha ⊢
  simpa using ha

/-- A supervisory request reaches its owner. -/
theorem State.receive_supervised {s : State} {p : Port} {r : Request} (hr : Request.ofController r = false)
    (hm : s.mode ≠ .loading) (ha : s.Supervises p) : s.receive p r = ((s.acceptFrame p).take p r).settle := by
  refine State.receive_taken ?_ hm ?_ ?_
  · cases r <;> first | rfl | cases hr
  · simpa [State.MayAsk, hr] using ha
  · cases r <;> first | rfl | cases hr

/-- A request of a cluster or storage controller reaches its owner. -/
theorem State.receive_controller {s : State} {p : Port} {r : Request} (hr : Request.ofController r = true)
    (hl : lengthFits (s.config p).role r = true) (hm : s.mode ≠ .loading)
    (ha : (s.config p).role = .cluster ∨ (s.config p).role = .storage) (hc : claimFits (s.config p).role r = true) :
    s.receive p r = ((s.acceptFrame p).take p r).settle := by
  refine State.receive_taken hl hm ?_ hc
  rw [State.MayAsk, if_pos hr]
  exact ha

@[simp] theorem State.setRecord_setRecord (s : State) (p : Port) (a b : PortRecord) :
    (s.setRecord p a).setRecord p b = s.setRecord p b := by
  simp [State.setRecord, Vector.set_set]

/-- A running mode is neither LOADING nor STANDBY. -/
theorem Mode.running_iff (m : Mode) : m.running = true ↔ m ≠ .loading ∧ m ≠ .standby := by
  cases m <;> simp [Mode.running]

end Sys2Proof.Machine
end

