-- ==== Sys2Proof/Tests/Slice0.lean ====
section
/-! SUPPORT. Tests: ill-formed commands refused, layouts read, the worked cases of the manual, and for every obligation with hypotheses a state that
meets them. Expected results are the manual's. -/

open Sys2Proof Sys2Proof.Machine

namespace Sys2Proof.Tests

/-! ### Ill-formed commands (WellFormed) -/

theorem test_unknown_kind_must_be_unknown : (Instr.unknownKind 0 0x10#8 []).wellFormed = false := by decide

theorem test_unknown_kind_beyond_the_requests : (Instr.unknownKind 0 0x2A#8 []).wellFormed = true := by decide

theorem test_payload_above_64_is_no_frame : (Instr.unknownKind 0 0x77#8 (List.replicate 65 0#8)).wellFormed = false := by decide +kernel

theorem test_position_0_activates_nothing : (Instr.profileActivation 0).wellFormed = false := by decide

theorem test_position_5_expires_nothing : (Instr.profileExpiry 5).wellFormed = false := by decide

theorem test_position_4_is_a_position : (Instr.profileExpiry 4).wellFormed = true := by decide

/-! ### Layouts (R146, R157) -/

/-- YIELD 20,000: SYNC, kind 0x12, four bytes most significant first, CHECK 0x12 ^ 0x04 ^ 0x4E ^ 0x20 = 0x78. -/
theorem test_yield_frame :
    (Request.yield 20000).frame = [0xA5#8, 0x12#8, 4#8, 0#8, 0#8, 0x4E#8, 0x20#8, 0x78#8] := by decide

theorem test_join_decodes : Request.decode 0x10#8 [1#8] = some (.join 1#8) := by decide

theorem test_report_of_12_bytes_is_a_cluster's :
    Request.decode 0x11#8 [0#8, 0#8, 0#8, 1#8, 0#8, 0#8, 1#8, 0#8, 0#8, 1#8, 0#8, 0#8] = some (.reportCluster 1 256 65536) := by
  decide

theorem test_query_decodes : Request.decode 0x22#8 [2#8, 0x02#8, 0x57#8, 9#8] = some (.query 2#8 599 9#8) := by decide

theorem test_mode_decodes : Request.decode 0x27#8 [1#8] = some (.mode 1#8) := by decide

theorem test_clear_decodes : Request.decode 0x28#8 [1#8, 255#8] = some (.clear 1#8 255#8) := by decide

theorem test_short_payload_decodes_to_none : Request.decode 0x12#8 [0#8, 0#8, 0#8] = none := by decide

/-- LIMIT LOWER 20,000 of frame 48,210 (0x0000BC52). -/
theorem test_limit_payload :
    (Message.limit .lower 20000 48210).payload = [3#8, 0#8, 0#8, 0x4E#8, 0x20#8, 0#8, 0#8, 0xBC#8, 0x52#8] := by decide

/-- PORT_STALE of port 4, cause YIELD_TIMEOUT, at 18,000: low nibble the port, high nibble the cause. -/
theorem test_port_stale_detail :
    (Notice.portStale 4 .yieldTimeout 18000).detail = [0x24#8, 0#8, 0x46#8, 0x50#8] := by decide

theorem test_table_words_spell_nothing : decodeTableWord 8 0x12 = none := by decide

/-! ### The frame's arithmetic: the worked cases of chapters 1, 2, 5 and 6 -/

/-- A profile with these bounds and this blend, every flag clear. -/
def plainProfile (bound step b : Int) (window : Nat) : Profile :=
  { lup := bound, ldn := bound, sup := step, sdn := step, window := window, blend := b, anticipate := false, restore := false
    reseed := false, bound := false, restoreRate := 0, soeTarget := 0 }

/-- Section 1.9: Rd 175,000, hi 182,000, lo 178,000, R′ = 178,000 without a mark. -/
theorem test_cloud_edge_stages :
    stages (plainProfile 20000 2000 64 300) 200000 180000 160000 30000 176000 181000 = ⟨178000, none, none⟩ := by decide

/-- R61: the worked samples. -/
theorem test_scale_rounds_toward_minus_infinity : { ChannelConfig.start with gain := 40000 }.scale (-3) = -2 := by decide

theorem test_scale_adds_the_offset : { ChannelConfig.start with gain := 98304, offset := -500 }.scale 1000 = 1000 := by decide

theorem test_scale_clamps_at_the_top : { ChannelConfig.start with gain := 131072 }.scale 8388607 = 8388607 := by decide

/-- A raw sample's most significant byte carries its sign (R60). -/
theorem test_raw_sample_is_signed : rawSample 0xFF#8 0xFF#8 0xFD#8 = -3 := by decide

/-- Section 2.7: frames 502 to 504 and 506, each with the exports up to it. -/
theorem test_compliance_passes_at_502 :
    complianceExcess (plainProfile 3000 2000 64 10) 500 152900 [152900, 151200, 150000] = none := by decide

theorem test_compliance_fails_at_503 :
    complianceExcess (plainProfile 3000 2000 64 10) 500 154100 [154100, 152900, 151200, 150000] = some 600 := by decide

theorem test_compliance_passes_at_506 :
    complianceExcess (plainProfile 3000 2000 64 10) 500 153200 [153200, 153800, 154600, 154100, 152900, 151200, 150000] = none := by
  decide

/-- Section 4.11: the track and the ratio of a shadow. -/
theorem test_shadow_ratios :
    [ratioOf 900 900, ratioOf 880 880, ratioOf 860 700, ratioOf 840 420, ratioOf 820 420, ratioOf 800 0] =
      [256, 256, 208, 128, 131, 0] := by decide

theorem test_track_decays :
    { Channel.start with config := { ChannelConfig.start with kind := .irradiance, decay := 20 }, track := 880 }.newTrack false 700 =
      860 := by decide

/-- Section 5.9: 20,001 kW by discharge availability, port 10 before port 4. -/
theorem test_storage_remainder_goes_to_the_first :
    divideAmong 20001 [(10, 25000), (4, 30000)] = [⟨10, 9092, 25000⟩, ⟨4, 10909, 30000⟩] := by decide

/-- Section 6.8: 79,000 kW, port 1 first. -/
theorem test_budget_proportional :
    divideBudget 79000 [⟨1, 47000, 50000⟩, ⟨0, 44000, 50000⟩] = [(1, 40803), (0, 38197)] := by decide

/-- Section 6.9: the two directions. -/
theorem test_budget_remainder_of_two :
    divideBudget 99999 [⟨6, 40000, 50000⟩, ⟨1, 30000, 50000⟩, ⟨3, 30000, 50000⟩] = [(6, 40000), (1, 30000), (3, 29999)] := by
  decide

theorem test_budget_spare_of_one :
    divideBudget 100001 [⟨6, 40000, 50000⟩, ⟨1, 30000, 50000⟩, ⟨3, 30000, 50000⟩] = [(6, 40001), (1, 30000), (3, 30000)] := by
  decide

theorem test_budget_beyond_the_ratings :
    divideBudget 160000 [⟨6, 40000, 50000⟩, ⟨1, 30000, 50000⟩, ⟨3, 30000, 50000⟩] = [(6, 50000), (1, 50000), (3, 50000)] := by
  decide

/-- Section 6.9: INTERLEAVED from start 5. -/
theorem test_interleaved_from_5 :
    sweepOrderOf .interleaved 5 = [5, 4, 7, 6, 1, 0, 3, 2, 9, 8, 11, 10] := by decide

/-- Section 6.10: the register over five GOVERNING expiries from seed 0. -/
theorem test_lfsr_from_seed_0 :
    (List.range 6).map (fun k => lfsrStep^[k] (seededLfsr 0)) =
      [0x5A5A#16, 0x2D2D#16, 0xA296#16, 0x514B#16, 0x9CA5#16, 0xFA52#16] := by decide

/-- Section 8.4: the CRC of the nine ASCII bytes "123456789". -/
theorem test_crc_of_the_check_string :
    crc16 [0x31#8, 0x32#8, 0x33#8, 0x34#8, 0x35#8, 0x36#8, 0x37#8, 0x38#8, 0x39#8] = 0x29B1#16 := by decide +kernel

/-- A byte the external memory does not supply reads as 0xFF, so an empty memory fails with FORMAT (R135, R136). -/
theorem test_empty_memory_is_no_image : judgeImage [] = .error .format := by decide +kernel

/-! ### Links and notices: the worked cases of chapters 9 and 10 -/

/-- A link that is UP with an idle transmitter. -/
def upLink : LinkPort := { LinkPort.start with up := true }

/-- Section 9.7: the ACK to the DROP takes the place of the ACK to the PUSH, the newest reply of a full queue. -/
theorem test_full_queue_replaces_its_newest_reply :
    (intoQueue [.nak 1#8 .range, .nak 2#8 .range, .nak 3#8 .range, .ack 0x20#8 false false] (.ack 0x21#8 false false)) =
      [.nak 1#8 .range, .nak 2#8 .range, .nak 3#8 .range, .ack 0x21#8 false false] := by decide

/-- R154: a LIMIT replaces the waiting LIMIT where it stands. -/
theorem test_limit_replaces_a_limit_in_place :
    intoQueue [.nak 1#8 .range, .limit .keep 5 1, .nak 3#8 .range] (.limit .lower 4 2) =
      [.nak 1#8 .range, .limit .lower 4 2, .nak 3#8 .range] := by decide

/-- Section 10.6: four notices merge into two entries. -/
theorem test_notices_merge :
    ([.portStale 2 .silence 1, .portStale 3 .yieldTimeout 2, .excursion 4100, .excursion 3800].foldl LinkPort.raise upLink).notices =
      [⟨2, .portStale 3 .yieldTimeout 2⟩, ⟨2, .excursion 3800⟩] := by decide

/-- R155: with the queue empty, the entry of the lowest kind code is sent first. -/
theorem test_lowest_notice_leaves_first :
    ({ upLink with notices := [⟨2, .portStale 3 .silence 2⟩, ⟨2, .excursion 3800⟩] }.startSending).transmitter =
      .sending (.notice 2 (.portStale 3 .silence 2)) := by decide

/-! ### Small states -/

/-- A port table entry of a cluster rated 50,000 kW with fallback 30,000 kW, its lead channel 1. -/
def clusterEntry : PortConfig := ⟨.cluster, 50000, 30000, some 1, 0, 0⟩

/-- The plant of section 1.9: clusters on ports 0 to 3, storage on port 4, a supervisor on port 5. -/
def plantTable : Vector PortConfig 12 :=
  ((((((Vector.replicate 12 .start).set 0 clusterEntry).set 1 clusterEntry).set 2 clusterEntry).set 3 clusterEntry).set 4
    ⟨.storage, 40000, 0, none, 30000, 5000⟩).set 5 ⟨.supervisor, 0, 0, none, 0, 0⟩

/-- Channel 0 the meter, VALID at 160,000 kW; channel 1 an IRRADIANCE channel, VALID at 900. -/
def plantChannels : Vector Channel 16 :=
  ((Vector.replicate 16 .start).set 0
    { Channel.start with config := { ChannelConfig.start with kind := .poiPower }, state := .valid, buffer := [160000], value := some 160000 }).set
    1 { Channel.start with
        config := { ChannelConfig.start with kind := .irradiance, skip := 1 }, state := .valid, buffer := [900], value := some 900, track := 900 }

/-- An ENGAGED record at a committed value. -/
def engagedAt (committed : Int) : PortRecord :=
  { PortRecord.start with participation := .engaged, committed := committed, lastSent := some committed }

/-- A cluster's record with what it last reported as available. -/
def clusterAt (committed available : Int) : PortRecord := { engagedAt committed with cluster := ⟨available, available, available⟩ }

/-- The plant running in a mode, as it stands before frame 48,210 (section 1.9), the window set two records here. -/
def plant (mode : Mode) : State :=
  { State.reset with
    mode := mode, readProgress := .idle, frameTimer := .running 200, scanTimer := .running 50
    site := { SiteRecord.start with exportLimit := 200000 }, portTable := plantTable, channels := plantChannels
    defaultProfile := plainProfile 20000 2000 64 300, frameNumber := 48209, reference := 180000
    ring := [⟨48209, 176000, 170000, some 170000, 0, .empty⟩, ⟨48208, 181000, 170000, some 170000, 0, .empty⟩], windowBase := 47000
    sinceBase := 2, sweepStart := 1, sweepOrder := sweepOrderOf .sequential 1
    records :=
      (((((Vector.replicate 12 .start).set 0 (clusterAt 45000 20000)).set 1 (clusterAt 45000 46000)).set 2 (clusterAt 45000 47000)).set 3
        (clusterAt 45000 47000)).set 4 { engagedAt 0 with storage := ⟨0, 30000, 30000, 60000, 80000, 0, 0⟩ }
    links := Vector.replicate 12 upLink }

/-- The plant in PRIMING, before its first expiry. -/
def primingPlant : State :=
  { plant .priming with frameNumber := 0, ring := [], sinceBase := 0, windowBase := 1, reference := 0, primingCounter := 24 }

/-- The plant in STANDBY: every record ABSENT at fb or 0, the timers stopped. -/
def standbyPlant : State :=
  { plant .standby with
    frameTimer := .stopped, scanTimer := .stopped
    records := Vector.ofFn fun p : Port => if p.val < 4 then { PortRecord.start with committed := 30000 } else .start }

/-- A state with one port's record replaced. -/
def withRecord (p : Port) (r : PortRecord) (s : State) : State := s.setRecord p r

/-- What a command makes of a state (every command answers a next state). -/
def after (c : Instr) (s : State) : State :=
  match exec c s with
  | .next t => t
  | _ => s

/-! ### Steps of the worked cases -/

/-- Section 1.9, frame 48,210: R′, T, S_act and the frame number. -/
theorem test_frame_48210_governor :
    let t := after .frameExpiry (plant .governing)
    (t.reference, t.target, t.storageNet, t.frameNumber) = (178000, 160000, 18000, 48210) := by decide +kernel

/-- Section 1.9, frame 48,210: port 0 is sent LOWER 20,000, the raises are staged and ports 1 to 4 are sent KEEP. -/
theorem test_frame_48210_protocol :
    let t := after .frameExpiry (plant .governing)
    (([0, 1, 2, 3, 4] : List Port).map fun p => ((t.record p).committed, (t.record p).lastSent, (t.record p).staged)) =
        [(45000, some 20000, none), (45000, some 45000, some 46000), (45000, some 45000, some 47000), (45000, some 45000, some 47000),
          (0, some 0, some 18000)] ∧
      (t.record 0).outstanding = some ⟨20000, 48210⟩ ∧ (t.record 0).participation = .recalling := by decide +kernel

/-- Section 7.14: the YIELD of port 0 frees the room for every staged raise; N = 178,000 and X = 188,000. -/
theorem test_yield_serves_the_staged_raises :
    let t := after (.yield 0 20000) (after .frameExpiry (plant .governing))
    (([0, 1, 2, 3, 4] : List Port).map fun p => (t.record p).committed) = [20000, 46000, 47000, 47000, 18000] ∧
      t.netCommitment = 178000 ∧ t.exportCommitment = 188000 := by decide +kernel

/-- Section 7.15: a silent cluster is raised to its fallback and its staged raise is discarded. -/
theorem test_tenth_silent_expiry :
    let s := withRecord 0 { engagedAt 19000 with staged := some 21000, silence := 9 } (plant .holding)
    let r := (after (.silenceTimeout 0) s).record 0
    (r.participation, r.cause, r.committed, r.staged) = (.stale, some .silence, 30000, none) := by decide +kernel

/-- Section 7.15: its REPORT returns it at the smaller of 18,500 and 30,000. -/
theorem test_report_after_silence :
    let s := withRecord 0 { engagedAt 30000 with participation := .stale, cause := some .silence } (plant .holding)
    let r := (after (.reportCluster 0 18500 18500 18500) s).record 0
    (r.participation, r.cause, r.committed, r.lastSent) = (.engaged, none, 18500, some 18500) := by decide +kernel

/-- Section 7.14: a recall that has stood for three frames times out. -/
theorem test_third_frame_without_a_yield :
    let s := withRecord 4 { engagedAt 18000 with participation := .recalling, outstanding := some ⟨12000, 48207⟩ } (plant .governing)
    let r := (after (.yieldTimeout 4) s).record 4
    (r.participation, r.cause, r.committed, r.recallTimeouts) = (.stale, some .yieldTimeout, 18000, 1) := by decide +kernel

/-- Section 3.9: B's W of 720 is clamped to 600 and its b of 300 to 256. -/
theorem test_push_is_clamped :
    let b : ProfileBlock := ⟨10000, 10000, 1000, 1000, 720, 300, 4#8, 0, 0#8⟩
    ((after (.push 5 b 0 3) (plant .governing)).entries.map fun e => (e.profile.window, e.profile.blend, e.frames, e.state)) =
      [(600, 256, 0, .pending)] := by decide +kernel

/-- Section 8.10: a fallback above its rating fails MODE RUN with CONFIG. -/
theorem test_mode_run_with_a_high_fallback :
    let s := { standbyPlant with portTable := plantTable.set 3 ⟨.cluster, 50000, 60000, none, 0, 0⟩ }
    let t := after (.modeRun 5) s
    (t.mode, t.checkResult, (t.link 5).transmitter) = (.standby, .fallback, .sending (.nak 0x27#8 .config)) := by decide +kernel

/-- Section 8.10: with fallbacks that sum to 120,000 kW the run begins. -/
theorem test_mode_run_begins_priming :
    let t := after (.modeRun 5) standbyPlant
    (t.mode, t.checkResult, t.exportCommitment, t.frameTimer) = (.priming, .passed, 120000, .running 200) := by decide +kernel

/-- Section 8.10: the 25th expiry seeds R from the meter. -/
theorem test_priming_ends_at_the_meter :
    let t := after .primingEnd primingPlant
    (t.mode, t.reference, t.frameNumber, t.windowBase) = (.governing, 160000, 0, 1) := by decide +kernel

/-- Section 4.10, scan 9: the meter's loss moves the mode to HOLDING. -/
theorem test_meter_loss :
    let s := { plant .governing with
      scan := some ⟨0, 0⟩
      channels := plantChannels.set 0 { plantChannels[0] with missingRun := 2 } }
    let t := after .converterAnswerTimeout s
    (t.mode, t.holdingEntries, (t.channel 0).state, (t.channel 0).value) = (.holding, 1, .lost, none) := by decide +kernel

/-- R67: a meter that is lost again before it has become VALID gives no second METER_LOST; the one in PRIMING below is its first. -/
theorem test_second_loss_of_the_meter :
    let lost (mark : Bool) : State := { plant .holding with
      scan := some ⟨0, 0⟩
      channels := plantChannels.set 0 { plantChannels[0] with state := .filling, value := none, missingRun := 2, lossMark := mark } }
    ((after .converterAnswerTimeout (lost true)).link 5).transmitter = .idle ∧
      ((after .converterAnswerTimeout (lost true)).channel 0).state = .lost ∧
      ((after .converterAnswerTimeout { lost false with mode := .priming }).link 5).transmitter = .sending (.notice 1 (.meterLost 0 3)) := by
  decide +kernel

/-- Section 4.10, scan 15: the buffer's sum of 475,600 gives 158,533, and the meter's return moves the mode to GOVERNING. -/
theorem test_meter_return :
    let meter : Channel := { Channel.start with
      config := { ChannelConfig.start with kind := .poiPower, groupSize := 2, averaging := 3 }, state := .filling, group := [158900]
      buffer := [158100, 158500], lossMark := true }
    let s := { plant .holding with scan := some ⟨0, 0⟩, channels := plantChannels.set 0 meter }
    let t := after (.sampleReceived 0x02#8 0x6D#8 0x7D#8 0#8) s
    (t.mode, (t.channel 0).value, (t.channel 0).lossMark) = (.governing, some 158533, false) := by decide +kernel

/-- Section 2.7: reading the newest record, then the one before it (R38). -/
theorem test_history_reply :
    (after (.queryHistory 5 0 0) (plant .governing)).link 5 =
      { upLink with
        accepted := 1
        transmitter := .sending (.reply 0 (.history (some ⟨48209, 176000, 170000, some 170000, 0, .empty⟩)
          (some ⟨48208, 181000, 170000, some 170000, 0, .empty⟩))) } := by decide +kernel

/-- Section 8.1: the reset line restarts with cause LINE and begins the image read. -/
theorem test_reset_line :
    let t := after .resetLine (plant .governing)
    (t.mode, t.restartCause, t.readProgress) = (.loading, .line, .reading) := by decide

/-- Eight rejections in a row take the link DOWN (R149). -/
theorem test_eighth_rejection :
    ((after (.frameRejected 0) ((plant .governing).setLink 0 { upLink with rejections := 7 })).link 0).up = false := by decide +kernel

/-- R148: a gap inside a frame rejects it, and in HUNT there is none to reject. -/
theorem test_gap_inside_a_frame :
    ((after (.interByteGapTimeout 0) ((plant .governing).setLink 0 { upLink with receiver := .kind })).link 0) =
        { upLink with rejected := 1, rejections := 1 } ∧
      after (.interByteGapTimeout 0) (plant .governing) = plant .governing := by decide +kernel

/-! ### For every obligation with hypotheses, a state and operands that meet them -/

/-- The ACK that a pending restart waits on. -/
def restartAck : Message := .ack 0x29#8 false true

theorem witness_StepTakesTheFrontCommand : (plant .governing).pending = [] := by decide +kernel

theorem witness_EventsEndByTransmittingOrRestarting_waits :
    let s := { (plant .governing).setLink 5 { upLink with queue := [restartAck] } with restartPending := some 5 }
    ∀ p, s.restartPending = some p → (s.link p).startSending.holdsRestartAck = true := by
  intro s p h
  obtain rfl : p = 5 := by simpa [s] using h.symm
  decide +kernel

theorem witness_EventsEndByTransmittingOrRestarting_due :
    let s := { plant .governing with restartPending := some 5 }
    s.restartPending = some 5 ∧ (s.link 5).startSending.holdsRestartAck = false := by decide +kernel

theorem witness_RestartsTakeTheStartValues_request :
    (plant .governing).mode ≠ .loading ∧ (plant .governing).Supervises 5 ∧ (plant .governing).restartPending = none ∧
      ({ plant .governing with restartPending := some 6 } : State).restartPending ≠ none := by
  refine ⟨by decide, .inl (by decide), by decide, by decide⟩

theorem witness_RestartsTakeTheStartValues_taken :
    let s := { (plant .governing).setLink 5 { upLink with transmitter := .sending restartAck } with restartPending := some 5 }
    s.restartPending = some 5 ∧ (s.link 5).queue.any Message.isRestartAck = false := by decide +kernel

theorem witness_RestartsTakeTheStartValues_waits :
    let s := { (plant .governing).setLink 5 { upLink with queue := [restartAck] } with restartPending := some 5 }
    s.restartPending = some 5 ∧ (s.link 5).queue.any Message.isRestartAck = true := by decide +kernel

/-- The least profile block in range (section 3.1). -/
def leastBlock : ProfileBlock := ⟨0, 0, 1, 1, 10, 1, 0, 0, 0⟩

/-- The greatest profile block in range, every flag set. -/
def greatestBlock : ProfileBlock := ⟨1000000, 1000000, 1000000, 1000000, 600, 256, 255, 1000000, 100⟩

/-- A cluster's port entry in range. -/
def clusterFields (port : Byte) : PortFields := ⟨port, 1, 50000, 30000, 255, 0, 0⟩

/-- A channel's configuration in range. -/
def channelFields (channel kind : Byte) : ChannelFields := ⟨channel, kind, 127, 255, 65536, 0, 3, 16, 8, 15, 3, 0, 0, 8388607⟩

/-- Two records that configure a plant with a meter and a cluster. -/
def goodRecords : List Request := [.setChan (channelFields 0 1), .setPort (clusterFields 11)]

theorem witness_ImageIsReadBack :
    (∀ r ∈ goodRecords, 0x23#8 ≤ r.kind ∧ r.kind ≤ 0x26#8) ∧ (imageOf goodRecords).length ≤ 2048 := by decide +kernel

/-- An image of the greatest length, 2,048 bytes (R135). -/
theorem witness_ImageIsReadBack_longest :
    let rs := List.replicate 69 (Request.setProf leastBlock) ++ List.replicate 9 (.setPort (clusterFields 0))
    (∀ r ∈ rs, 0x23#8 ≤ r.kind ∧ r.kind ≤ 0x26#8) ∧ (imageOf rs).length = 2048 := by
  have length : ∀ rs, (imageOf rs).length = (imageRecords rs).length + 5 := fun rs => by simp [imageOf, bigEndian]
  refine ⟨by decide +kernel, ?_⟩
  rw [length]
  decide +kernel

/-- An image around any bytes in the place of its records, with its CRC (R135). -/
def imageAround (records : List Byte) : List Byte :=
  let body := [1#8] ++ bigEndian 2 (records.length + 5 : Nat) ++ records
  body ++ bigEndian 2 (crc16 body).toNat

/-- R135, R136: an erased memory fails FORMAT, lengths of 4 and 2,049 LENGTH, a wrong CRC CRC, a kind code of MODE and a SETPORT one byte short
RECORD. -/
theorem test_image_failures :
    [[], [1#8, 0#8, 4#8], [1#8, 8#8, 1#8], [1#8, 0#8, 5#8, 0#8, 0#8], imageAround [0x27#8, 1#8], imageAround (0x24#8 :: List.replicate 18 0)].map
        (fun memory => match judgeImage memory with | .error e => e | .ok _ => CheckResult.none) =
      [.format, .length, .length, .crc, .record, .record] := by decide +kernel

/-- The records of an image, then bytes that are no whole record of it: both clauses of RECORD have images that meet their hypotheses. -/
theorem witness_ImageIsReadBack_record :
    let memory := imageAround (imageRecords goodRecords ++ 0x24#8 :: List.replicate 18 0)
    let byte (i : Nat) : Byte := (memory[i]?).getD 0xFF#8
    let length := 256 * (byte 1).toNat + (byte 2).toNat
    let body := (List.range (length - 2)).map byte
    byte 0 = 1#8 ∧ 5 ≤ length ∧ length ≤ 2048 ∧
      (crc16 body).toNat = 256 * (byte (length - 2)).toNat + (byte (length - 1)).toNat ∧
      body.drop 3 = imageRecords goodRecords ++ 0x24#8 :: List.replicate 18 0 ∧
      (goodRecords.foldlM Configuration.stage Configuration.start).isSome = true ∧
      (∀ r ∈ goodRecords, 0x23#8 ≤ r.kind ∧ r.kind ≤ 0x26#8) ∧
      (([.setProf ⟨0, 0, 0, 0, 0, 0, 0, 0, 0⟩] : List Request).foldlM Configuration.stage Configuration.start).isNone = true := by
  decide +kernel

/-- Whether each condition of the cross-checks holds, in the order of the table (R141). -/
def crossConditions (c : Configuration) : List Bool :=
  [decide (∃ i : ChannelIndex, c.channels[i].kind = .poiPower ∧ ∀ j : ChannelIndex, c.channels[j].kind = .poiPower → j = i),
    decide (∃ p : Port, c.ports[p].role = .cluster),
    decide ((Finset.univ.filter fun p : Port => c.ports[p].role = .cluster).card ≤ 10 ∧
      (Finset.univ.filter fun p : Port => c.ports[p].role = .storage).card ≤ 2 ∧
      (Finset.univ.filter fun p : Port => c.ports[p].role = .supervisor).card ≤ 2),
    decide (∀ p : Port, c.ports[p].role = .cluster → c.ports[p].rated ≤ c.site.exportLimit),
    decide (∀ p : Port, c.ports[p].role = .cluster → c.ports[p].fallback ≤ c.ports[p].rated),
    decide ((∑ p : Port, if c.ports[p].role = .cluster then c.ports[p].fallback else 0) ≤ c.site.exportLimit),
    decide (∀ (p : Port) (i : ChannelIndex), c.ports[p].role = .cluster → c.ports[p].lead = some i → c.channels[i].kind = .irradiance)]

/-- A configuration with its channel 0 of a kind, its first ports entered and an export limit. -/
def checkedConfiguration (kind : ChannelKind) (limit : Int) (ports : List PortConfig) : Configuration :=
  { Configuration.start with
    site := { SiteRecord.start with exportLimit := limit }
    channels := Configuration.start.channels.set 0 { ChannelConfig.start with kind := kind }
    ports := Vector.ofFn fun p : Port => (ports[p.val]?).getD PortConfig.start }

/-- For each cross-check a configuration that fails it and no check before it. -/
theorem witness_CrossChecksPassExactlyWhenAllHold :
    let cluster (rated fallback : Int) (lead : Option ChannelIndex) : PortConfig :=
      { PortConfig.start with role := .cluster, rated := rated, fallback := fallback, lead := lead }
    ([checkedConfiguration .off 100 [], checkedConfiguration .poiPower 100 [],
        checkedConfiguration .poiPower 100 (List.replicate 11 (cluster 1 0 none)), checkedConfiguration .poiPower 100 [cluster 101 0 none],
        checkedConfiguration .poiPower 100 [cluster 100 101 none],
        checkedConfiguration .poiPower 100 [cluster 100 60 none, cluster 100 41 none],
        checkedConfiguration .poiPower 100 [cluster 100 60 none, cluster 100 40 (some 0)]].map fun c =>
        ((crossConditions c).takeWhile id).length) = [0, 1, 2, 3, 4, 5, 6] := by decide +kernel

/-- State.reset reads its image: what FollowsMode asks of it. -/
theorem witness_FollowsMode_reset : State.reset.FollowsMode where
  frameTimer := by decide
  scanTimer := by decide
  scan := by decide
  reading := by decide
  list := fun _ => rfl
  absent := fun _ p => by revert p; decide

theorem witness_ImageReadEndsInPrimingOrStandby_reading : State.reset.readProgress = .reading ∧ judgeImage [] = .error .format := by
  decide +kernel

theorem witness_ImageReadEndsInPrimingOrStandby_good : (judgeImage (imageOf goodRecords)).isOk = true := by decide +kernel

theorem witness_FollowsMode_standby : standbyPlant.FollowsMode where
  frameTimer := by decide
  scanTimer := by decide
  scan := by decide
  reading := by decide
  list := fun _ => rfl
  absent := fun _ p => by revert p; decide +kernel

theorem witness_ImageReadEndsInPrimingOrStandby_idle : standbyPlant.readProgress = .idle := by decide

/-! #### Requests -/

theorem witness_RefusedRequestsGetOneNakEach_length :
    (Instr.reportCluster 4 0 0 0).request = some (4, .reportCluster 0 0 0) ∧ ((plant .governing).config 4).role = .storage ∧
      (Instr.reportStorage 0 0 0 0 0 0).request = some (0, .reportStorage 0 0 0 0 0) ∧ ((plant .governing).config 0).role = .cluster := by
  decide +kernel

theorem witness_RefusedRequestsGetOneNakEach_loading :
    (Instr.queryPort 5 0 0).request = some (5, .query 1#8 0 0) ∧ State.reset.mode = .loading ∧
      ¬∃ i n, Request.query 1#8 0 0 = .query 0#8 i n := by
  refine ⟨by decide, by decide, ?_⟩
  rintro ⟨i, n, h⟩
  injection h with h
  exact absurd h (by decide)

theorem witness_RefusedRequestsGetOneNakEach_role :
    (Instr.drop 0).request = some (0, .drop) ∧ ¬(plant .governing).MayAsk 0 .drop ∧ ¬(plant .governing).MayAsk 5 .leave := by
  refine ⟨by decide, ?_, ?_⟩
  · change ¬(_ ∨ _)
    decide +kernel
  · change ¬(_ ∨ _)
    decide +kernel

theorem witness_RefusedRequestsGetOneNakEach_claim :
    (Instr.join 0 2#8).request = some (0, .join 2#8) ∧ (plant .governing).MayAsk 0 (.join 2#8) ∧
      (2#8).toNat ≠ ((plant .governing).config 0).role.code := ⟨by decide, .inl (by decide +kernel), by decide +kernel⟩

theorem witness_RefusedRequestsGetOneNakEach_standby :
    standbyPlant.mode = .standby ∧ standbyPlant.MayAsk 0 .leave ∧ Request.ofController .leave = true ∧
      standbyPlant.MayAsk 5 (.push leastBlock 0 0) :=
  ⟨by decide, .inl (by decide +kernel), by decide, .inl (by decide +kernel)⟩

theorem witness_RefusedRequestsGetOneNakEach_running :
    (plant .holding).mode.running = true ∧ (plant .holding).MayAsk 5 (.setProf leastBlock) := ⟨by decide, .inl (by decide +kernel)⟩

theorem witness_RefusedRequestsGetOneNakEach_kind :
    (Instr.unknownKind 0 0x2A#8 (List.replicate 64 0#8)).wellFormed = true ∧ (Instr.unknownKind 0 0x14#8 []).wellFormed = true := by
  decide +kernel

theorem witness_JoinEngagesThePortAtFallbackOrZero :
    primingPlant.mode.running = true ∧ (primingPlant.config 3).role = .cluster ∧ (primingPlant.config 4).role = .storage := by
  decide +kernel

theorem witness_ReportsAreStored :
    let s := withRecord 0 .start (plant .governing)
    s.mode.running = true ∧ (s.config 0).role = .cluster ∧ 0 ≤ (s.config 0).rated ∧ (s.record 0).participation = .absent ∧
      (s.record 1).participation = .engaged ∧ (s.config 4).role = .storage ∧ 0 ≤ (s.config 4).ratedCharge := by decide +kernel

/-- Outputs of 45,000 and 45,001 kW against a ceiling of 45,000: at it and above it, the run at 2 and at 3. -/
theorem witness_ReportsAreStored_overrun :
    let s := withRecord 1 { clusterAt 45000 46000 with overrunRun := 2 } (withRecord 2 { clusterAt 45000 0 with overrunRun := 3, overrun := true }
      (plant .governing))
    ¬((s.record 1).committed + s.site.margin < min (45000 : Int) (s.config 1).rated) ∧
      (s.record 1).committed + s.site.margin < min (45001 : Int) (s.config 1).rated ∧ (s.record 1).overrun = false ∧
      (s.record 2).committed + s.site.margin < min (45001 : Int) (s.config 2).rated ∧ (s.record 2).overrun = true := by decide +kernel

/-- Silent ports with a recall below the value they return at, and without one. -/
theorem witness_ReportReturnsASilentPort :
    let silent : PortRecord := { engagedAt 30000 with participation := .stale, cause := some .silence }
    let s := withRecord 0 { silent with outstanding := some ⟨18499, 48209⟩ } (withRecord 1 { silent with outstanding := some ⟨18500, 48209⟩ }
      (withRecord 4 { silent with committed := 0 } (plant .governing)))
    s.mode.running = true ∧ (s.record 0).participation = .stale ∧ (s.record 0).cause = some .silence ∧ (s.config 0).role = .cluster ∧
      18499 < max 0 (min (min (18500 : Int) (s.record 0).committed) (s.config 0).rated) ∧
      ¬18500 < max 0 (min (min (18500 : Int) (s.record 1).committed) (s.config 1).rated) ∧
      (s.record 4).participation = .stale ∧ (s.record 4).cause = some .silence ∧ (s.config 4).role = .storage := by decide +kernel

/-- A recall at 20,000 under a committed value of 45,000: yields of 20,000, 20,001, 45,000 and 45,001, and a port without a recall. -/
theorem witness_YieldIsJudgedAgainstTheRecall :
    let s := withRecord 0 { engagedAt 45000 with participation := .recalling, outstanding := some ⟨20000, 48209⟩ } (plant .governing)
    let v (n : BitVec 32) : Int := max 0 (min n.toInt (s.config 0).rated)
    s.mode.running = true ∧ (s.config 0).role = .cluster ∧ 0 ≤ (s.config 0).rated ∧ 0 ≤ (s.config 0).ratedCharge ∧
      (s.record 0).outstanding = some ⟨20000, 48209⟩ ∧ v 20000 ≤ 20000 ∧ 20000 < v 20001 ∧ v 45000 ≤ (s.record 0).committed ∧
      (s.record 0).committed < v 45001 ∧ (s.record 1).outstanding = none := by decide +kernel

theorem witness_LeaveMakesThePortAbsent :
    let s := withRecord 4 .start (plant .holding)
    s.mode.running = true ∧ (s.config 0).role = .cluster ∧ (s.record 0).participation ≠ .absent ∧ (s.config 4).role = .storage ∧
      (s.record 4).participation = .absent := by decide +kernel

/-- Site fields at the ends of their ranges. -/
def leastSite : SiteFields := ⟨1, 100, 10, 1, 2, 1, 0, 0, 0, 0, 0⟩

def greatestSite : SiteFields := ⟨1000000, 2000, 1000, 15, 50, 255, 1000000, 1000000, 1, 1, 0xFFFF#16⟩

theorem witness_SetSiteAndSetProfReplaceTheirRecord :
    standbyPlant.mode = .standby ∧ standbyPlant.Supervises 5 ∧ leastSite.InRange ∧ greatestSite.InRange ∧
      ¬({ leastSite with framePeriod := 150 } : SiteFields).InRange ∧ leastBlock.InRange ∧ greatestBlock.InRange ∧
      ¬({ leastBlock with window := 9 } : ProfileBlock).InRange ∧ ¬({ greatestBlock with blend := 257 } : ProfileBlock).InRange := by
  refine ⟨by decide, .inl (by decide +kernel), ?_, ?_, ?_, ?_, ?_, ?_, ?_⟩
  all_goals
    first
    | unfold SiteFields.InRange; decide
    | unfold ProfileBlock.InRange; decide

/-- A cluster, a storage, a supervisor and an unused entry in range, one with a lead channel of 16 and one of a port 12 out of it. -/
theorem witness_SetPortReplacesThePortEntry :
    (clusterFields 11).InRange ∧ (⟨0, 2, 0, 0, 255, 0, 4000000⟩ : PortFields).InRange ∧ (⟨5, 3, 0, 0, 255, 0, 0⟩ : PortFields).InRange ∧
      (⟨5, 0, 0, 0, 255, 0, 0⟩ : PortFields).InRange ∧ ¬({ clusterFields 0 with lead := 16 } : PortFields).InRange ∧
      ¬(clusterFields 12).InRange ∧ ¬({ clusterFields 0 with rated := 0 } : PortFields).InRange := by
  refine ⟨?_, ?_, ?_, ?_, ?_, ?_, ?_⟩
  all_goals
    unfold PortFields.InRange
    decide

/-- A record that is staged, and one that is out of range. -/
theorem witness_ImageIsReadBack_staged :
    standbyPlant.mode = .standby ∧ standbyPlant.Supervises 5 ∧
      (Instr.setPort 5 (clusterFields 11)).request = some (5, .setPort (clusterFields 11)) ∧
      (standbyPlant.inForce.stage (.setPort (clusterFields 11))).isSome = true ∧
      (standbyPlant.inForce.stage (.setPort (clusterFields 12))).isNone = true := by
  refine ⟨by decide, ?_, rfl, by decide +kernel, by decide +kernel⟩
  unfold State.Supervises
  decide

theorem witness_SetChanReplacesTheChannel :
    standbyPlant.mode = .standby ∧ standbyPlant.Supervises 5 ∧ (channelFields 15 0).InRange ∧ (channelFields 0 3).InRange ∧
      ¬(channelFields 16 1).InRange ∧ ¬({ channelFields 0 1 with groupSize := 0 } : ChannelFields).InRange := by
  refine ⟨by decide, .inl (by decide +kernel), ?_, ?_, ?_, ?_⟩
  all_goals
    unfold ChannelFields.InRange
    decide

/-- A pushed entry with a delay and an expiry of two frames. -/
def pendingEntry (port : Port) : Entry := ⟨plainProfile 10000 1000 256 10, port, 2, 2, .pending, 2⟩

theorem witness_PushAppendsAClampedPendingEntry :
    let s (n : Nat) : State := { plant .priming with entries := List.replicate n (pendingEntry 5) }
    (s 3).mode.running = true ∧ ((s 3).config 5).role = .supervisor ∧ (s 3).entries.length < 4 ∧ 4 ≤ (s 4).entries.length := by
  decide +kernel

theorem witness_DropRemovesTheSendersNewestEntry :
    let s := { plant .governing with entries := [pendingEntry 5, pendingEntry 5, pendingEntry 6] }
    s.mode ≠ .loading ∧ s.Supervises 5 ∧ s.entries = [pendingEntry 5] ++ pendingEntry 5 :: [pendingEntry 6] ∧ (pendingEntry 5).port = 5 ∧
      (∀ x ∈ [pendingEntry 6], x.port ≠ 5) ∧ ∀ e ∈ standbyPlant.entries, e.port ≠ 5 := by
  refine ⟨by decide, .inl (by decide +kernel), ?_⟩
  decide +kernel

theorem witness_QueriesReplyWithTheStateAsItStands :
    (plant .governing).Answers (plant .governing) ((plant .governing).acceptFrame 5) 5 [] [] ∧ State.reset.mode = .loading ∧
      (plant .governing).mode ≠ .loading ∧ (plant .governing).Supervises 5 := by
  refine ⟨⟨?_, ?_, ?_, ?_⟩, by decide, by decide, .inl (by decide +kernel)⟩
  · decide +kernel
  · decide +kernel
  · decide +kernel
  · decide +kernel

/-- The ends of the indices of QUERY LIST: the default, the newest entry, an absent position, one beyond. -/
theorem witness_QueriesReplyWithTheStateAsItStands_list :
    let s := { plant .governing with entries := [pendingEntry 5] }
    s.entries[(1#16).toNat - 1]? = some (pendingEntry 5) ∧ s.entries.length < (4#16).toNat ∧ 5 ≤ (5#16).toNat ∧
      12 ≤ (12#16).toNat ∧ (599#16).toNat ≤ 599 ∧ 600 ≤ (600#16).toNat := by decide +kernel

theorem witness_ClearsActOnWhatTheyName :
    standbyPlant.mode ≠ .loading ∧ standbyPlant.Supervises 5 ∧ (15#8).toNat ≤ 15 ∧ 16 ≤ (16#8).toNat ∧ 16#8 ≠ 255#8 ∧ 254#8 ≠ 255#8 := by
  refine ⟨by decide, .inl (by decide +kernel), ?_⟩
  decide

theorem witness_ModeRunEntersPrimingWhereTheChecksPass :
    standbyPlant.Supervises 5 ∧ standbyPlant.mode = .standby ∧ standbyPlant.inForce.crossCheck = .passed ∧
      ({ standbyPlant with channels := Vector.replicate 16 .start } : State).inForce.crossCheck ≠ .passed ∧
      (plant .holding).Supervises 5 ∧ (plant .holding).mode.running = true := by
  refine ⟨.inl (by decide +kernel), by decide, by decide +kernel, by decide +kernel, .inl (by decide +kernel), by decide⟩

/-- Open access: in STANDBY with no SUPERVISOR port, any port may ask (R140). -/
theorem witness_open_access :
    ({ standbyPlant with portTable := Vector.replicate 12 .start } : State).Supervises 7 := .inr (by decide +kernel)

/-! #### Frame expiries -/

/-- Port 0's recall has stood for three frames at frame 48,210; port 1's is one frame short; port 2 is one frame short of silence;
port 3 comes to both. -/
def agingPlant : State :=
  withRecord 0 { engagedAt 45000 with participation := .recalling, outstanding := some ⟨20000, 48207⟩ }
    (withRecord 1 { engagedAt 45000 with participation := .recalling, outstanding := some ⟨20000, 48208⟩ }
      (withRecord 2 { engagedAt 45000 with silence := 9 }
        (withRecord 3 { engagedAt 45000 with participation := .recalling, outstanding := some ⟨20000, 48207⟩, silence := 9 }
          (plant .governing))))

theorem witness_ExpiryAgesEveryRecord :
    agingPlant.mode.running = true ∧ agingPlant.mode ≠ .priming ∧
      agingPlant.site.yieldLimit ≤ (agingPlant.frameNumber + 1 - 48207#32).toNat ∧
      ¬agingPlant.site.yieldLimit ≤ (agingPlant.frameNumber + 1 - 48208#32).toNat ∧
      (agingPlant.record 2).participation ≠ .absent ∧ agingPlant.site.silenceLimit ≤ (agingPlant.record 2).silence + 1 ∧
      (agingPlant.record 3).participation = .recalling ∧ agingPlant.site.silenceLimit ≤ (agingPlant.record 3).silence + 1 ∧
      agingPlant.supervisory 0 = false ∧ agingPlant.supervisory 5 = true ∧ (agingPlant.link 5).up = true := by decide +kernel

/-- A list with an entry that activates at the next expiry with a reseed, and one that runs out at it. -/
def busyList : List Entry :=
  [{ pendingEntry 5 with frames := 0, profile := { plainProfile 10000 1000 256 10 with reseed := true } },
    { pendingEntry 5 with state := .active, frames := 1 }]

theorem witness_ExpiryBringsTheListUpToDate :
    let s := { plant .governing with entries := busyList }
    s.mode.running = true ∧ (∃ e ∈ s.entries, e.state = .pending ∧ e.frames = 0 ∧ e.profile.reseed = true) ∧
      ¬∃ e ∈ (plant .governing).entries, e.state = .pending ∧ e.frames = 0 ∧ e.profile.reseed = true := by decide +kernel

/-- A list whose newest ACTIVE entry is followed by a PENDING one, and a list without an ACTIVE one. -/
theorem witness_ExpiryBringsTheListUpToDate_active :
    let active : Entry := { pendingEntry 5 with state := .active }
    let s := { plant .governing with entries := [active, active, pendingEntry 6] }
    s.entries = [active] ++ active :: [pendingEntry 6] ∧ active.state = .active ∧ (∀ x ∈ [pendingEntry 6], x.state ≠ .active) ∧
      ∀ x ∈ (plant .governing).entries, x.state ≠ .active := by decide +kernel

/-- The counts at which a pushed entry with delay 2 and expiry 2 waits, activates, is in its last frame and is gone. -/
theorem witness_ExpiryBringsTheListUpToDate_life :
    (pendingEntry 5).state = .pending ∧ 2 ≤ (pendingEntry 5).frames ∧ (pendingEntry 5).frames < 3 ∧
      4 ≤ (pendingEntry 5).frames + (pendingEntry 5).expiry ∧ (pendingEntry 5).expiry ≠ 0 ∧
      (pendingEntry 5).frames + (pendingEntry 5).expiry < 5 := by decide

/-- The sweep order of the plants names each port once. -/
theorem witness_SweepInOrder_plant (mode : Mode) : (plant mode).SweepInOrder where
  order := by
    change (sweepOrderOf .sequential 1).Perm (List.finRange 12)
    decide
  lfsr := by
    change (0x5A5A#16 : BitVec 16) ≠ 0
    decide

theorem witness_PrimingFrameKeepsAndMaySeed :
    primingPlant.mode = .priming ∧ primingPlant.frameTimer ≠ .stopped ∧ standbyPlant.frameTimer = .stopped ∧
      primingPlant.measuredPower = some 160000 ∧ primingPlant.primingCounter + 1 = primingPlant.site.primingFrames ∧
      ({ primingPlant with primingCounter := 23 } : State).primingCounter + 1 ≠ primingPlant.site.primingFrames := by decide +kernel

/-- The plant has one meter, and the part after reset has none. -/
theorem witness_PrimingFrameKeepsAndMaySeed_meter :
    (primingPlant.channel 0).config.kind = .poiPower ∧ (∀ j, (primingPlant.channel j).config.kind = .poiPower → j = 0) ∧
      ∀ i, (State.reset.channel i).config.kind ≠ .poiPower := by decide +kernel

theorem witness_PrimingFrameKeepsAndMaySeed_order : primingPlant.SweepInOrder :=
  ⟨(witness_SweepInOrder_plant .priming).order, (witness_SweepInOrder_plant .priming).lfsr⟩

theorem witness_PrimingEndSeedsTheReference :
    primingPlant.mode = .priming ∧ primingPlant.frameTimer ≠ .stopped ∧ 0 ≤ primingPlant.site.exportLimit ∧
      primingPlant.site.primingFrames =
        (if primingPlant.primingCounter < primingPlant.site.primingFrames then primingPlant.primingCounter + 1
          else primingPlant.primingCounter) ∧
      primingPlant.measuredPower = some 160000 ∧ (primingPlant.config 5).role = .supervisor ∧ (primingPlant.link 5).up = true ∧
      (plant .governing).mode ≠ .priming := by decide +kernel

theorem witness_EntriesActivateAndExpireAtTheirExpiry :
    let s := { plant .governing with entries := busyList }
    s.mode.running = true ∧ s.frameTimer ≠ .stopped ∧ s.entries.length < 5 ∧
      ((s.entries[1 - 1]?).map fun e => (e.state, e.frames, e.profile.reseed)) = some (.pending, 0, true) ∧
      ((s.entries[2 - 1]?).map fun e => (e.state, e.expiry, e.frames)) = some (.active, 2, 1) := by decide +kernel

theorem witness_TimeoutsMakeThePortStale :
    agingPlant.mode.running = true ∧ agingPlant.frameTimer ≠ .stopped ∧ agingPlant.mode ≠ .priming ∧
      (agingPlant.record 0).participation = .recalling ∧ (agingPlant.record 0).outstanding = some ⟨20000, 48207⟩ ∧
      agingPlant.site.yieldLimit ≤ (agingPlant.frameNumber + 1 - 48207#32).toNat ∧ (agingPlant.record 2).participation = .engaged ∧
      agingPlant.site.silenceLimit ≤ (agingPlant.record 2).silence + 1 ∧ (agingPlant.record 1).silence + 1 < agingPlant.site.silenceLimit := by
  decide +kernel

theorem witness_GoverningFrameComputes : (plant .governing).mode = .governing ∧ (plant .governing).frameTimer ≠ .stopped := by decide

theorem witness_HeldFrameKeepsTheReference : (plant .holding).mode = .holding ∧ (plant .holding).frameTimer ≠ .stopped := by decide

/-! #### The frame's arithmetic -/

theorem witness_BlendMovesTowardTheTarget :
    (1 : Int) ≤ 64 ∧ (64 : Int) ≤ 256 ∧ (160000 : Int) < 180000 ∧ (180000 : Int) ≤ 200000 ∧ |(64 : Int) * (3 - 0)| < 256 ∧
      |(3 : Int) - 0| ≤ 3 := by decide

/-- Bounds that meet, bounds that conflict by one kilowatt, and targets below both. -/
theorem witness_StagesBoundTheReference :
    let conflict := plainProfile 0 2000 64 300
    (0 : Int) ≤ 180000 ∧ (180000 : Int) ≤ 200000 ∧ (0 : Int) ≤ 160000 ∧ (160000 : Int) ≤ 200000 ∧ (0 : Int) ≤ 30000 ∧
      (stages conflict 200000 180000 160000 30000 180000 180000).conflict = none ∧
      (stages conflict 200000 180000 160000 30000 179999 180000).conflict = some 1 ∧
      (stages conflict 200000 180000 160000 19999 180000 180000).shortfall = some 1 ∧
      (stages conflict 200000 180000 160000 19999 179999 180000).shortfall = some 1 := by decide

/-- Budgets at ΣF, one above it, one below ΣF + ΣQ and at it; clusters forecast at their ratings; none forecast. -/
theorem witness_BudgetDivisionIsExact :
    let cs : List ActiveCluster := [⟨6, 40000, 50000⟩, ⟨1, 30000, 50000⟩, ⟨3, 30000, 50000⟩]
    (∀ c ∈ cs, 0 ≤ c.forecast ∧ c.forecast ≤ c.rated) ∧ (cs.map ActiveCluster.forecast).sum = 100000 ∧
      (cs.map fun c => c.rated - c.forecast).sum = 50000 ∧ (100001 : Int) - 100000 < 50000 ∧ (149999 : Int) - 100000 < 50000 ∧
      (50000 : Int) ≤ 150000 - 100000 ∧ (([⟨1, 50000, 50000⟩] : List ActiveCluster).map fun c => c.rated - c.forecast).sum = 0 ∧
      (([⟨1, 0, 50000⟩] : List ActiveCluster).map ActiveCluster.forecast).sum = 0 := by decide

theorem witness_StorageDivisionIsExact :
    (0 : Int) < 55000 ∧ (∀ m ∈ ([(10, 25000), (4, 30000)] : List (Port × Int)), 0 ≤ m.2) ∧
      (55000 : Int) ≤ (([(10, 25000), (4, 30000)] : List (Port × Int)).map Prod.snd).sum := by decide

theorem witness_SweepLfsrHasFullPeriod : (1#16 : BitVec 16) ≠ 0 := by decide

/-! #### Limits -/

/-- One port of each class: ABSENT, STALE with and without a recall, no desired value; the desired value below, at and above the committed value,
with a recall and without one. -/
def emissionPlant : State :=
  withRecord 0 { engagedAt 45000 with desired := some 44999 }
    (withRecord 1 { engagedAt 45000 with desired := some 44998, participation := .recalling, outstanding := some ⟨44999, 48208⟩ }
      (withRecord 2 { engagedAt 45000 with desired := some 44999, participation := .recalling, outstanding := some ⟨44999, 48208⟩ }
        (withRecord 3 { engagedAt 45000 with desired := some 45000 } (withRecord 4 { engagedAt 0 with desired := some 18000 }
          (withRecord 6 { engagedAt 5 with participation := .stale } (withRecord 7 { engagedAt 5 with participation := .stale, outstanding := some ⟨4, 1⟩ }
            (withRecord 8 (engagedAt 7) (plant .governing))))))))

theorem witness_EmissionFollowsTheClasses :
    emissionPlant.sweepOrder.Perm (List.finRange 12) ∧ emissionPlant.sweepLfsr ≠ 0 ∧
      ((List.finRange 12).map fun p => ((emissionPlant.record p).participation, (emissionPlant.record p).outstanding.isSome)) =
        [(.engaged, false), (.recalling, true), (.recalling, true), (.engaged, false), (.engaged, false), (.absent, false), (.stale, false),
          (.stale, true), (.engaged, false), (.absent, false), (.absent, false), (.absent, false)] := by
  refine ⟨?_, ?_, ?_⟩
  · change (sweepOrderOf .sequential 1).Perm (List.finRange 12)
    decide
  · change (0x5A5A#16 : BitVec 16) ≠ 0
    decide
  · decide +kernel

/-- The raise of port 4, first in its order after ports 1 to 3: references at which nothing, one kilowatt, all but one and all of its 18,000 kW fit. -/
theorem witness_EmissionFollowsTheClasses_raise :
    let s (reference : Int) : State := { emissionPlant with reference := reference }
    (s 0).sweepOrder = [1, 2, 3] ++ 4 :: [5, 6, 7, 8, 9, 10, 11, 0] ∧ ((s 0).record 4).desired = some 18000 ∧
      ((s 0).record 4).outstanding = none ∧ ((s 0).config 4).role = .storage ∧
      [180000, 180001, 197999, 198000].map (fun reference => (s reference).fit 4 18000) = [0, 1, 17999, 18000] := by decide +kernel

/-- Staged raises of which one fits by one kilowatt and one does not fit at all. -/
theorem witness_BudgetReleaseGrantsWhatFits :
    let s (reference : Int) := { withRecord 2 { engagedAt 45000 with staged := some 47000 } (plant .governing) with reference := reference }
    ((s 0).record 2).staged = some 47000 ∧ ((s 0).record 2).outstanding = none ∧ ((s 0).record 2).participation = .engaged ∧
      ((s 0).config 2).role = .cluster ∧ (s 180000).fit 2 47000 = 45000 ∧ (s 180001).fit 2 47000 = 45001 ∧ (s 0).netCommitment = 180000 := by
  decide +kernel

/-- Two staged raises of 2,000 kW where 3,000 kW fit: the port later in the sweep order is served with the grant before it counted. -/
theorem witness_BudgetReleaseGrantsWhatFits_order :
    let staged := { engagedAt 45000 with staged := some 47000 }
    let s := { withRecord 1 staged (withRecord 2 staged (plant .governing)) with reference := 183000 }
    s.sweepOrder = [] ++ 1 :: [2, 3, 4, 5, 6, 7, 8, 9, 10, 11, 0] ∧ s.sweepOrder = [1] ++ 2 :: [3, 4, 5, 6, 7, 8, 9, 10, 11, 0] ∧
      s.netCommitment = 180000 ∧ ([1, 2].all fun p => (s.config p).role == .cluster) = true ∧
      (s.budgetRelease.record 1).committed = 47000 ∧ (s.budgetRelease.record 2).committed = 46000 := by decide +kernel

/-- A record whose export fails against the record before it, and one without a measured export. -/
theorem witness_AppendMarksAndChecksTheRecord :
    let s := plant .governing
    let r (measured : Option Int) : FrameRecord := ⟨48210, 178000, 160000, measured, 18000, .empty⟩
    let profile := plainProfile 20000 2000 64 300
    (s.appendRecord profile (r (some 190001))).complianceLatched = true ∧ (s.appendRecord profile (r (some 190000))).complianceLatched = false ∧
      profile.inRange = true ∧ s.complianceLatched = false ∧ (r none).measured = none := by decide +kernel

/-! #### The Scan Unit -/

theorem witness_ScanExpiryVisitsTheChannels :
    let s := plant .governing
    s.mode.running = true ∧ s.scanTimer ≠ .stopped ∧ s.scan = none ∧ standbyPlant.scanTimer = .stopped := by decide

/-- A meter that is filling its last group and buffer, one that is not, and one that returns in HOLDING. -/
theorem witness_ValidSampleIsTakenIntoItsChannel :
    let s (mode : Mode) (group : Nat) (lost : Bool) : State :=
      { plant mode with
        scan := some ⟨0, 0⟩
        channels := plantChannels.set 0 { plantChannels[0] with
          config := { ChannelConfig.start with kind := .poiPower, groupSize := group, averaging := 2 }, buffer := [1, 2], lossMark := lost
          state := if lost then .lost else .valid } }
    (s .governing 2 false).scan = some ⟨0, 0⟩ ∧ (s .governing 2 false).mode.running = true ∧
      (((s .governing 2 false).channel 0).group ++ [7]).length < ((s .governing 2 false).channel 0).config.groupSize ∧
      ((s .holding 1 true).channel 0).config.groupSize ≤ (((s .holding 1 true).channel 0).group ++ [7]).length ∧
      ((s .holding 1 true).channel 0).state = .lost ∧ (s .holding 1 true).mode = .holding ∧ (plant .governing).scan = none := by
  decide +kernel

/-- One missing sample short of the miss limit of 3, at it, for the meter and for another channel. -/
theorem witness_MissingSampleMayLoseItsChannel :
    let s (c : ChannelIndex) (run : Nat) : State :=
      { plant .governing with scan := some ⟨c, 0⟩, channels := plantChannels.set c { plantChannels[c] with missingRun := run } }
    (1#8 : Byte) ≠ 0 ∧ (s 0 2).scan = some ⟨0, 0⟩ ∧ (s 0 2).mode = .governing ∧ ((s 0 2).channel 0).config.missLimit ≤ 2 + 1 ∧
      ((s 0 2).channel 0).state = .valid ∧ ((s 0 2).channel 0).config.kind = .poiPower ∧
      ¬((s 0 1).channel 0).config.missLimit ≤ 1 + 1 ∧ ((s 1 2).channel 1).config.kind ≠ .poiPower ∧
      ((s 1 2).channel 1).state = .valid ∧ ((s 0 2).channel 0).lossMark = false := by decide +kernel

/-- A meter that is lost again before it has become VALID. -/
theorem witness_MissingSampleMayLoseItsChannel_again :
    let s : State := { plant .holding with
      scan := some ⟨0, 0⟩
      channels := plantChannels.set 0 { plantChannels[0] with state := .filling, value := none, missingRun := 2, lossMark := true } }
    s.scan = some ⟨0, 0⟩ ∧ s.mode.running = true ∧ (s.channel 0).config.missLimit ≤ 2 + 1 ∧ (s.channel 0).state = .filling ∧
      (s.channel 0).config.kind = .poiPower ∧ (s.channel 0).lossMark = true := by decide +kernel

/-! #### Link ports -/

/-- Receivers in every state, a length of 64 and of 65, the last byte of a payload and the one before it. -/
theorem witness_ReceiverTakesEachByte :
    upLink.receiver = .hunt ∧ (64#8).toNat ≤ 64 ∧ 64 < (65#8).toNat ∧ (0#8).toNat = 0 ∧ 0 < (1#8).toNat ∧
      ([0x4E#8] : List Byte).length + 1 < (3#8).toNat ∧ (3#8).toNat ≤ ([0#8, 0x4E#8] : List Byte).length + 1 := by decide

/-- CHECK bytes of an unknown kind, of a length the kind has not, and of a LEAVE. -/
theorem witness_ReceiverTakesEachByte_check :
    isRequestKind 0x14#8 = false ∧ isRequestKind 0x13#8 = true ∧ Request.decode 0x13#8 [0#8] = none ∧
      (Instr.leave 0).request = some (0, .leave) ∧ Request.decode 0x13#8 [] = some .leave := by decide

/-- The least codes outside their tables, from ports with and without standing, and in LOADING. -/
theorem witness_ReceiverTakesEachByte_outside :
    (Request.decode 0x27#8 [2#8] = some (.mode 2) ∧ Request.OutsideTable (.mode 2)) ∧
      (Request.decode 0x22#8 [6#8, 0#8, 0#8, 0#8] = some (.query 6 0 0) ∧ Request.OutsideTable (.query 6 0 0)) ∧
      (Request.decode 0x28#8 [3#8, 0#8] = some (.clear 3 0) ∧ Request.OutsideTable (.clear 3 0)) ∧
      (plant .governing).Supervises 5 ∧ ¬(plant .governing).Supervises 0 ∧ (plant .governing).mode ≠ .loading ∧ State.reset.mode = .loading := by
  refine ⟨⟨by decide, .inl ⟨_, rfl, by decide⟩⟩, ⟨by decide, .inr (.inl ⟨_, _, _, rfl, by decide⟩)⟩,
    ⟨by decide, .inr (.inr ⟨_, _, rfl, by decide⟩)⟩, .inl (by decide +kernel), ?_, by decide, by decide⟩
  change ¬(_ ∨ _)
  decide +kernel

theorem witness_FrameBytesAreTheRequest :
    (Instr.leave 0).request = some (0, .leave) ∧ ((plant .governing).link 0).receiver = .hunt := by decide +kernel

theorem witness_RequestsAreReadBack : Request.decode 0x13#8 [] = some .leave := by decide

theorem witness_MessagesHaveTheirLayout :
    (-2147483648 : Int) ≤ 2147483647 ∧ (255 : Nat) ≤ 255 ∧ ((plant .governing).counters 1).length ≤ 24 := by decide +kernel

/-- A receiver inside a frame. -/
theorem witness_RejectionsTakeTheLinkDown_inside :
    (((plant .governing).setLink 5 { upLink with receiver := .kind, rejections := 7 }).link 5).receiver ≠ .hunt := by decide +kernel

/-- A supervisor's UP link one rejection short of the limit, a link two short, and a BOUND entry of the supervisor. -/
theorem witness_RejectionsTakeTheLinkDown :
    let e : Entry := { pendingEntry 5 with profile := { plainProfile 10000 1000 256 10 with bound := true } }
    let s := { (plant .governing).setLink 5 { upLink with rejections := 7 } with entries := [e] }
    (s.link 5).up = true ∧ 7 ≤ (s.link 5).rejections ∧ (s.link 0).rejections < 7 ∧ (s.config 5).role = .supervisor ∧ e.port = 5 ∧
      e.profile.bound = true ∧ (s.record 0).participation ≠ .absent ∧ (s.record 5).participation = .absent := by decide +kernel

/-- Queues with a waiting LIMIT, with three messages, and with four of which the newest reply comes before a LIMIT. -/
theorem witness_LinkAcceptsFramesAndAdmitsMessages :
    let keep : Message := .limit .keep 5 1
    let nak : Message := .nak 1#8 .range
    upLink.up = true ∧ LinkPort.start.up = false ∧ [nak, keep] = [nak] ++ keep :: [] ∧ nak.isLimit = false ∧
      ([nak, nak, nak] : List Message).length < 4 ∧ [nak, nak, nak, keep] = [nak, nak] ++ nak :: [keep] ∧ nak.isReply = true ∧
      ∀ y ∈ [keep], y.isReply = false := by decide

theorem witness_NoticesMergeByKind :
    let l : LinkPort := { upLink with notices := [⟨255, .portStale 3 .silence 2⟩, ⟨1, .excursion 3800⟩] }
    l.up = true ∧ (l.notices.map fun e => e.notice.code).Pairwise (· < ·) ∧ (Notice.portStale 1 .silence 0).code = 4 ∧
      (∀ e ∈ l.notices, e.notice.code ≠ (Notice.compliance 3).code) ∧ LinkPort.start.up = false := by decide

theorem witness_TransmitterTakesTheOldestMessageThenNotices :
    let m : Message := .nak 1#8 .range
    upLink.transmitter = .idle ∧ ({ upLink with transmitter := .sending m } : LinkPort).transmitter = .sending m ∧
      ({ upLink with queue := [m] } : LinkPort).queue = m :: [] ∧ upLink.queue = [] ∧ upLink.notices = [] := by decide

/-! #### Invariants: the plant meets each, and a step of it answers a next state -/

theorem witness_FollowsMode_plant : (plant .governing).FollowsMode where
  frameTimer := by decide
  scanTimer := by decide
  scan := by decide
  reading := by decide
  list := by rintro (h | h) <;> cases h
  absent := by rintro (h | h) <;> cases h

theorem witness_step_of_the_plant : ∃ t, step { plant .governing with pending := [.frameExpiry] } = .next t := ⟨_, rfl⟩

theorem witness_StepsKeepTheLinksDisciplined : (plant .governing).LinksDisciplined := by
  have h : upLink.Disciplined := by constructor <;> decide
  have hl : ∀ p, (plant .governing).link p = upLink := by decide +kernel
  intro p
  rw [hl p]
  exact h

theorem witness_StepsKeepTheRingInOrder : (plant .governing).RingInOrder where
  capacity := by decide
  consecutive := by decide
  since := by decide
  priming := by decide
  newest := fun _ r h => by
    change some _ = some r at h
    cases h
    decide

theorem witness_TableInRange : (plant .governing).TableInRange := by unfold State.TableInRange; decide +kernel

theorem witness_StepsKeepTheCommitmentsWithinTheLimit : (plant .governing).CommitmentsKept where
  table := witness_TableInRange
  resting := by rintro (h | h) <;> cases h
  withinLimit := by decide +kernel
  recallBelow := fun p r h => by
    have hn : ∀ p, ((plant .governing).record p).outstanding = none := by decide +kernel
    rw [hn p] at h
    cases h
  lastSent := fun p v _ h => by
    have hn : ∀ p, ∀ v ∈ ((plant .governing).record p).lastSent, v ≤ ((plant .governing).record p).committed := by decide +kernel
    exact hn p v h
  recalling := by decide +kernel
  absent := by decide +kernel

theorem witness_StepsKeepTheChannelsInOrder : (plant .governing).ChannelsInOrder where
  channels := fun c => by
    constructor <;> revert c <;> decide +kernel
  reading := by decide
  meter := fun _ => ⟨0, by decide +kernel, by decide +kernel⟩
  governing := by decide +kernel
  holding := by decide

theorem witness_StepsKeepTheListInOrder :
    let s := { plant .governing with entries := busyList }
    s.ListInOrder := by
  constructor <;> decide +kernel

theorem witness_StepsKeepTheReferenceWithinTheLimit : (plant .governing).FiguresKept where
  table := witness_TableInRange
  limit := by decide
  clusters := by decide +kernel
  discharges := by decide +kernel
  stale := by decide +kernel
  ratios := by decide +kernel
  reference := by decide

theorem witness_StepsKeepCommitmentsInTheirRatings : (plant .governing).RatingsKept where
  table := witness_TableInRange
  ratios := by decide +kernel
  fallbacks := by decide +kernel
  steered := fun _ p hr _ => by
    constructor <;> revert p hr <;> decide +kernel
  absent := by decide +kernel

end Sys2Proof.Tests
end

section
/-! The blend stage of the reference (R13): the truncated quotient on a rise and on a fall of the target, and the range it stays in. -/

namespace Sys2Proof.Machine

/-! ### The blend on each side of the reference -/

/-- A target at or above the reference: the step is not negative, and truncation is the floor. -/
theorem blend_of_le {b R T : Int} (hb : 0 ≤ b) (h : R ≤ T) : blend b R T = R + b * (T - R) / 256 := by
  have step_nonneg : 0 ≤ b * (T - R) := mul_nonneg hb (sub_nonneg.2 h)
  rw [blend, Int.tdiv_eq_ediv_of_nonneg step_nonneg]

/-- Truncation toward zero makes the fall by a difference the mirror image of the rise by it. -/
theorem blend_eq_sub (b R T : Int) : blend b R T = R - (b * (R - T)).tdiv 256 := by
  have negated : b * (T - R) = -(b * (R - T)) := by ring
  rw [blend, negated, Int.neg_tdiv, ← sub_eq_add_neg]

/-- A target at or below the reference: the amount of the fall is floored, so the blended value is rounded up. -/
theorem blend_of_ge {b R T : Int} (hb : 0 ≤ b) (h : T ≤ R) : blend b R T = R - b * (R - T) / 256 := by
  have fall_nonneg : 0 ≤ b * (R - T) := mul_nonneg hb (sub_nonneg.2 h)
  rw [blend_eq_sub, Int.tdiv_eq_ediv_of_nonneg fall_nonneg]

/-! ### Where it arrives at once, and where it rests -/

@[simp] theorem blend_full (R T : Int) : blend 256 R T = T := by
  rw [blend, Int.mul_tdiv_cancel_left _ (by decide), add_sub_cancel]

/-- A product below one whole kilowatt moves nothing, on either side (R13). -/
theorem blend_eq_self {b R T : Int} (small : |b * (T - R)| < 256) : blend b R T = R := by
  obtain ⟨above, below⟩ := abs_lt.1 small
  rcases le_total 0 (b * (T - R)) with rise | fall
  · rw [blend, Int.tdiv_eq_zero_of_lt rise below, add_zero]
  · have mirrored : b * (R - T) = -(b * (T - R)) := by ring
    rw [blend_eq_sub, Int.tdiv_eq_zero_of_lt (by omega) (by omega), sub_zero]

/-- At a blend of a quarter the reference rests within 3 kW of its target. -/
theorem blend_quarter_eq_self {R T : Int} (near : |T - R| ≤ 3) : blend 64 R T = R := by
  apply blend_eq_self
  rw [abs_mul, abs_of_pos (by decide)]
  omega

/-! ### The range -/

/-- A fraction b / 256 of a distance is no more than the distance. -/
theorem fraction_nonneg_and_le {b d : Int} (hb : 0 ≤ b) (hb' : b ≤ 256) (hd : 0 ≤ d) : 0 ≤ b * d / 256 ∧ b * d / 256 ≤ d := by
  have product_nonneg : 0 ≤ b * d := mul_nonneg hb hd
  have product_le : b * d ≤ 256 * d := mul_le_mul_of_nonneg_right hb' hd
  omega

/-- The blended value never overshoots: it lies between the reference and the target, whichever is greater (R13). -/
theorem blend_between {b : Int} (hb : 0 ≤ b) (hb' : b ≤ 256) (R T : Int) : min R T ≤ blend b R T ∧ blend b R T ≤ max R T := by
  rcases le_total R T with h | h
  · obtain ⟨step_nonneg, step_le⟩ := fraction_nonneg_and_le hb hb' (sub_nonneg.2 h)
    rw [blend_of_le hb h, min_eq_left h, max_eq_right h]
    omega
  · obtain ⟨fall_nonneg, fall_le⟩ := fraction_nonneg_and_le hb hb' (sub_nonneg.2 h)
    rw [blend_of_ge hb h, min_eq_right h, max_eq_left h]
    omega

/-- Settles O32: the sign of T − R decides the rounding, and a fraction of at most 256/256 of the difference keeps the value between R and T. -/
theorem blendMovesTowardTheTarget : Obligations.BlendMovesTowardTheTarget := by
  intro b R T E one_le le_full
  have hb : 0 ≤ b := by omega
  obtain ⟨above, below⟩ := blend_between hb le_full R T
  refine ⟨fun h => blend_of_ge hb h.le, blend_of_le hb, ?full, blend_eq_self, ?quarter, above, below, ?withinLimit⟩
  case full => rintro rfl; exact blend_full R T
  case quarter => rintro rfl; exact blend_quarter_eq_self
  case withinLimit =>
    intro R_nonneg R_le T_nonneg T_le
    exact ⟨(le_min R_nonneg T_nonneg).trans above, below.trans (max_le R_le T_le)⟩

end Sys2Proof.Machine
end

section
/-! The scaling of a raw sample (R61): the floored product, the offset, and the clamp to the 24-bit range of a channel. -/

namespace Sys2Proof.Machine

/-- Integer division rounds toward minus infinity here, the divisor being positive; the range is not empty, so the clamp is a bound on each side. -/
theorem ChannelConfig.scale_eq (c : ChannelConfig) (raw : Int) :
    c.scale raw = max (-8388608) (min (raw * c.gain / 65536 + c.offset) 8388607) :=
  have least_le_greatest : channelLeast ≤ channelGreatest := by decide
  clamp_eq least_le_greatest _

/-- A gain of 65,536 is a factor of one. -/
theorem ChannelConfig.scale_of_unit_gain {c : ChannelConfig} (unit : c.gain = 65536) (raw : Int) :
    c.scale raw = max (-8388608) (min (raw + c.offset) 8388607) := by
  rw [ChannelConfig.scale_eq, unit, Int.mul_ediv_cancel _ (by decide)]

/-- A gain of 0 leaves only the offset, whatever the converter answers. -/
theorem ChannelConfig.scale_of_zero_gain {c : ChannelConfig} (zero : c.gain = 0) (raw : Int) :
    c.scale raw = max (-8388608) (min c.offset 8388607) := by
  rw [ChannelConfig.scale_eq, zero, mul_zero, Int.zero_ediv, zero_add]

/-- A scaled sample is a signed 24-bit number for every gain and offset. -/
theorem ChannelConfig.scale_mem_range (c : ChannelConfig) (raw : Int) : -8388608 ≤ c.scale raw ∧ c.scale raw ≤ 8388607 := by
  rw [ChannelConfig.scale_eq]
  exact ⟨le_max_left _ _, max_le (by decide) (min_le_right _ _)⟩

/-- Settles O44: every clause is the one formula of R61; in the worked values −120,000 / 65,536 goes down to −2, and 1,500 less 500 is exact. -/
theorem sampleIsScaledAndClamped : Obligations.SampleIsScaledAndClamped := by
  refine ⟨ChannelConfig.scale_eq, fun _ raw unit => ChannelConfig.scale_of_unit_gain unit raw,
    fun _ raw zero => ChannelConfig.scale_of_zero_gain zero raw, ChannelConfig.scale_mem_range, ?negativeProduct, ?withOffset⟩
  case negativeProduct => intro c gain_eq offset_eq; rw [ChannelConfig.scale_eq, gain_eq, offset_eq]; decide
  case withOffset => intro c gain_eq offset_eq; rw [ChannelConfig.scale_eq, gain_eq, offset_eq]; decide

end Sys2Proof.Machine
end

section
/-! The two sweep orders (R95, R96): the ports each lists, that each port stands in it once, and where it starts and ends. -/

namespace Sys2Proof.Machine

/-! ### The SEQUENTIAL order -/

theorem sequentialOrder_map_val (s : Port) : (sequentialOrder s).map Fin.val = (List.range 12).map fun k => (s.val + k) % 12 := by
  have range_eq : List.range 12 = (List.finRange 12).map Fin.val := List.map_coe_finRange_eq_range.symm
  rw [range_eq, sequentialOrder, List.map_map, List.map_map]
  exact List.map_congr_left fun k _ => Fin.val_add s k

theorem sequentialOrder_head? (s : Port) : (sequentialOrder s).head? = some s := by
  have first_offset : (List.finRange 12).head? = some 0 := by decide
  rw [sequentialOrder, List.head?_map, first_offset, Option.map_some, add_zero]

/-- The last offset is 11, which is −1 among the ports. -/
theorem sequentialOrder_getLast? (s : Port) : (sequentialOrder s).getLast? = some (s - 1) := by
  have last_offset : (List.finRange 12).getLast? = some (-1) := by decide
  rw [sequentialOrder, List.getLast?_map, last_offset, Option.map_some, sub_eq_add_neg]

/-- Adding the start permutes the ports. -/
theorem sequentialOrder_nodup (s : Port) : (sequentialOrder s).Nodup :=
  (List.nodup_finRange 12).map (add_right_injective s)

/-- Port p stands at offset p − s. -/
theorem mem_sequentialOrder (s p : Port) : p ∈ sequentialOrder s :=
  List.mem_map.2 ⟨p - s, List.mem_finRange _, add_sub_cancel s p⟩

/-! ### The INTERLEAVED order -/

/-- A number names a port exactly where it is that port's. -/
@[simp] theorem portOf_eq_some_iff {n : Nat} {p : Port} : portOf n = some p ↔ n = p.val := by
  unfold portOf
  split
  case isTrue below => rw [Option.some_inj, Fin.ext_iff]
  case isFalse atLeast => simpa using fun eq : n = p.val => atLeast (eq ▸ p.isLt)

/-- Passing over what is no port is keeping the numbers below 12. -/
theorem filterMap_portOf_map_val (l : List Nat) : (l.filterMap portOf).map Fin.val = l.filter fun n => n < 12 := by
  induction l with
  | nil => rfl
  | cons n rest ih =>
    by_cases below : n < 12
    · have named : portOf n = some ⟨n, below⟩ := portOf_eq_some_iff.2 rfl
      simp [named, below, ih]
    · have unnamed : portOf n = none := dif_neg below
      simp [unnamed, below, ih]

theorem interleavedOrder_map_val (s : Port) :
    (interleavedOrder s).map Fin.val = ((List.range 16).map fun k => s.val ^^^ k).filter fun n => n < 12 := by
  rw [← filterMap_portOf_map_val, List.filterMap_map]
  rfl

/-- Exclusive-or with the start is its own inverse: port p comes of k = s XOR p, and of no other k. -/
theorem portOf_xor_eq_some_iff {s p : Port} {k : Nat} : portOf (s.val ^^^ k) = some p ↔ k = s.val ^^^ p.val := by
  rw [portOf_eq_some_iff]
  constructor
  · intro eq; rw [← eq, Nat.xor_xor_cancel_left]
  · intro eq; rw [eq, Nat.xor_xor_cancel_left]

theorem interleavedOrder_nodup (s : Port) : (interleavedOrder s).Nodup := by
  refine List.nodup_range.filterMap fun k k' p hk hk' => ?_
  exact (portOf_xor_eq_some_iff.1 hk).trans (portOf_xor_eq_some_iff.1 hk').symm

/-- The exclusive-or of two ports is a 4-bit number, so the walk over k reaches every port. -/
theorem mem_interleavedOrder (s p : Port) : p ∈ interleavedOrder s := by
  have four_bits : s.val ^^^ p.val < 2 ^ 4 := Nat.xor_lt_two_pow (by omega) (by omega)
  exact List.mem_filterMap.2 ⟨s.val ^^^ p.val, List.mem_range.2 four_bits, portOf_xor_eq_some_iff.2 rfl⟩

/-- The distance of a port from the start is the k it comes of, and k goes upward: first the ports that differ from the start in the low two bits only,
then those that differ in bit 2, then those that differ in bit 3. -/
theorem interleavedOrder_distances_increase (s : Port) : (interleavedOrder s).Pairwise fun p q => s.val ^^^ p.val < s.val ^^^ q.val := by
  rw [interleavedOrder, List.pairwise_filterMap]
  refine List.pairwise_lt_range.imp fun {k k'} lt p hp q hq => ?_
  rwa [← portOf_xor_eq_some_iff.1 hp, ← portOf_xor_eq_some_iff.1 hq]

theorem interleavedOrder_blocks_increase (s : Port) : ((interleavedOrder s).map fun p => (s.val ^^^ p.val) / 4).IsChain (· ≤ ·) := by
  refine List.Pairwise.isChain (List.pairwise_map.2 ?_)
  exact (interleavedOrder_distances_increase s).imp fun lt => Nat.div_le_div_right lt.le

/-! ### Both orders -/

theorem sweepOrderOf_nodup : ∀ (mode : SweepMode) (s : Port), (sweepOrderOf mode s).Nodup
  | .sequential => sequentialOrder_nodup
  | .interleaved => interleavedOrder_nodup

theorem mem_sweepOrderOf : ∀ (mode : SweepMode) (s p : Port), p ∈ sweepOrderOf mode s
  | .sequential => mem_sequentialOrder
  | .interleaved => mem_interleavedOrder

theorem sweepOrderOf_count (mode : SweepMode) (s p : Port) : (sweepOrderOf mode s).count p = 1 :=
  List.count_eq_one_of_mem (sweepOrderOf_nodup mode s) (mem_sweepOrderOf mode s p)

/-- Settles O36: s + k and s XOR k each run over every port once; the first order is read off its offsets, the second off its distances from s. -/
theorem sweepOrdersNameEachPortOnce : Obligations.SweepOrdersNameEachPortOnce := by
  refine ⟨⟨sequentialOrder_map_val, sequentialOrder_head?, ?last, sweepOrderOf_count .sequential, ?fromTwo⟩,
    interleavedOrder_map_val, sweepOrderOf_count .interleaved, interleavedOrder_blocks_increase⟩
  case last =>
    intro s
    have last_port : s - 1 = if s = 0 then 11 else s - 1 := by
      split
      case isTrue zero => rw [zero]; decide
      case isFalse => rfl
    exact last_port ▸ sequentialOrder_getLast? s
  case fromTwo => decide

end Sys2Proof.Machine
end

section
/-! What a command can do to the part, said once: which operations write only the records and the link ports, the effects an event can have, and the
principle that carries a law of the part over every step. -/

namespace Sys2Proof.Machine

/-! ### Everything but the records and the link ports -/

/-- The state without its records and link ports: what an operation of the Limit Protocol or of a link leaves as it is. -/
def State.frame (s : State) : State :=
  { s with records := Vector.replicate 12 .start, links := Vector.replicate 12 .start }

theorem State.eq_of_frame {s t : State} (h : t.frame = s.frame) : t = { s with records := t.records, links := t.links } := by
  cases s; cases t
  simp_all [State.frame]

section FrameFields
variable {s t : State} (h : t.frame = s.frame)
include h

theorem State.mode_of_frame : t.mode = s.mode := (congrArg State.mode h :)
theorem State.site_of_frame : t.site = s.site := (congrArg State.site h :)
theorem State.portTable_of_frame : t.portTable = s.portTable := (congrArg State.portTable h :)
theorem State.readProgress_of_frame : t.readProgress = s.readProgress := (congrArg State.readProgress h :)
theorem State.frameTimer_of_frame : t.frameTimer = s.frameTimer := (congrArg State.frameTimer h :)
theorem State.frameNumber_of_frame : t.frameNumber = s.frameNumber := (congrArg State.frameNumber h :)
theorem State.reference_of_frame : t.reference = s.reference := (congrArg State.reference h :)
theorem State.ring_of_frame : t.ring = s.ring := (congrArg State.ring h :)
theorem State.sinceBase_of_frame : t.sinceBase = s.sinceBase := (congrArg State.sinceBase h :)
theorem State.defaultProfile_of_frame : t.defaultProfile = s.defaultProfile := (congrArg State.defaultProfile h :)
theorem State.entries_of_frame : t.entries = s.entries := (congrArg State.entries h :)
theorem State.scanTimer_of_frame : t.scanTimer = s.scanTimer := (congrArg State.scanTimer h :)
theorem State.scan_of_frame : t.scan = s.scan := (congrArg State.scan h :)
theorem State.channels_of_frame : t.channels = s.channels := (congrArg State.channels h :)
theorem State.sweepLfsr_of_frame : t.sweepLfsr = s.sweepLfsr := (congrArg State.sweepLfsr h :)
theorem State.sweepOrder_of_frame : t.sweepOrder = s.sweepOrder := (congrArg State.sweepOrder h :)
theorem State.pending_of_frame : t.pending = s.pending := (congrArg State.pending h :)

theorem State.config_of_frame (p : Port) : t.config p = s.config p := by
  rw [State.config, State.portTable_of_frame h]; rfl

theorem State.channel_of_frame (c : ChannelIndex) : t.channel c = s.channel c := by
  rw [State.channel, State.channels_of_frame h]; rfl

end FrameFields

@[simp] theorem State.frame_setRecord (s : State) (p : Port) (r : PortRecord) : (s.setRecord p r).frame = s.frame := rfl
@[simp] theorem State.frame_setLink (s : State) (p : Port) (l : LinkPort) : (s.setLink p l).frame = s.frame := rfl
@[simp] theorem State.frame_mapRecords (s : State) (f : Port → PortRecord → PortRecord) : (s.mapRecords f).frame = s.frame := rfl
@[simp] theorem State.frame_mapLinks (s : State) (f : Port → LinkPort → LinkPort) : (s.mapLinks f).frame = s.frame := rfl
@[simp] theorem State.frame_enqueue (s : State) (p : Port) (m : Message) : (s.enqueue p m).frame = s.frame := rfl
@[simp] theorem State.frame_ack (s : State) (p : Port) (k : Byte) : (s.ack p k).frame = s.frame := rfl
@[simp] theorem State.frame_nak (s : State) (p : Port) (k : Byte) (r : NakReason) : (s.nak p k r).frame = s.frame := rfl
@[simp] theorem State.frame_raise (s : State) (n : Notice) : (s.raise n).frame = s.frame := rfl
@[simp] theorem State.frame_listChange (s : State) (c : ListCause) (p : Option Port) : (s.listChange c p).frame = s.frame := rfl
@[simp] theorem State.frame_dropFormerSets (s before : State) : (s.dropFormerSets before).frame = s.frame := rfl
@[simp] theorem State.frame_withdrawLimit (s : State) (p : Port) : (s.withdrawLimit p).frame = s.frame := rfl
@[simp] theorem State.frame_acceptFrame (s : State) (p : Port) : (s.acceptFrame p).frame = s.frame := rfl
@[simp] theorem State.frame_sendLimit (s : State) (p : Port) (a : LimitAction) (v : Int) : (s.sendLimit p a v).frame = s.frame := rfl
@[simp] theorem State.frame_sendKeep (s : State) (p : Port) : (s.sendKeep p).frame = s.frame := rfl
@[simp] theorem State.frame_sendLower (s : State) (p : Port) (v : Int) : (s.sendLower p v).frame = s.frame := rfl
@[simp] theorem State.frame_sendRaise (s : State) (p : Port) (g : Int) : (s.sendRaise p g).frame = s.frame := by
  simp [State.sendRaise]

/-- A fold of an operation that writes only records and links writes only records and links. -/
theorem State.frame_foldl {α : Type} {f : State → α → State} (hf : ∀ s a, (f s a).frame = s.frame) (as : List α) (s : State) :
    (as.foldl f s).frame = s.frame := by
  induction as generalizing s with
  | nil => rfl
  | cons a as ih => rw [List.foldl_cons, ih, hf]

@[simp] theorem State.frame_raiseAll (ns : List Notice) (s : State) : (s.raiseAll ns).frame = s.frame :=
  State.frame_foldl State.frame_raise ns s

@[simp] theorem State.frame_serveStaged (s : State) (p : Port) : (s.serveStaged p).frame = s.frame := by
  rw [State.serveStaged_frame]; rfl

@[simp] theorem State.frame_budgetRelease (s : State) : s.budgetRelease.frame = s.frame := by
  rw [State.budgetRelease_frame]; rfl

@[simp] theorem State.frame_releaseIfFallen (s : State) (p : Port) (was : Int) : (s.releaseIfFallen p was).frame = s.frame := by
  rw [State.releaseIfFallen_frame]; rfl

@[simp] theorem State.frame_silencePort (s : State) (p : Port) : (s.silencePort p).frame = s.frame := by
  rw [State.silencePort_frame]; rfl

@[simp] theorem State.frame_releasePort (s : State) (p : Port) : (s.releasePort p).frame = s.frame := by
  unfold State.releasePort; split <;> simp

@[simp] theorem State.frame_takeJoin (s : State) (p : Port) : (s.takeJoin p).frame = s.frame := by
  simp [State.takeJoin]

@[simp] theorem State.frame_takeLeave (s : State) (p : Port) : (s.takeLeave p).frame = s.frame := by
  unfold State.takeLeave; simp only; split <;> simp

@[simp] theorem State.frame_takeYield (s : State) (p : Port) (v : Int) : (s.takeYield p v).frame = s.frame := by
  unfold State.takeYield; simp only
  split
  · simp
  · split
    · simp
    · split <;> simp

@[simp] theorem State.frame_returnPort (s : State) (p : Port) : (s.returnPort p).frame = s.frame := by
  unfold State.returnPort
  split
  · simp only [State.frame_releaseIfFallen]; split <;> simp
  · rfl

@[simp] theorem State.frame_checkOverrun (s : State) (p : Port) : (s.checkOverrun p).frame = s.frame := by
  unfold State.checkOverrun; simp only
  split
  · rfl
  · split
    · simp
    · split <;> simp

@[simp] theorem State.frame_takeClusterReport (s : State) (p : Port) (o a d : Int) : (s.takeClusterReport p o a d).frame = s.frame := by
  simp [State.takeClusterReport]

@[simp] theorem State.frame_takeStorageReport (s : State) (p : Port) (a d c e k : Int) :
    (s.takeStorageReport p a d c e k).frame = s.frame := by
  simp [State.takeStorageReport]

@[simp] theorem State.frame_formAvailabilities (s : State) : s.formAvailabilities.frame = s.frame := rfl
@[simp] theorem State.frame_writeDesired (s : State) (role : Role) (vs : List (Port × Int)) : (s.writeDesired role vs).frame = s.frame := rfl
@[simp] theorem State.frame_splitStorage (s : State) (net : Int) : (s.splitStorage net).frame = s.frame := rfl
@[simp] theorem State.frame_allocate (s : State) (profile : Profile) (b : Int) : (s.allocate profile b).frame = s.frame := rfl

@[simp] theorem State.frame_openRecall (s : State) (p : Port) (d : Int) : (s.openRecall p d).frame = s.frame := by
  simp [State.openRecall]

@[simp] theorem State.frame_firstPassAt (s : State) (item : Port × Class) : (s.firstPassAt item).frame = s.frame := by
  unfold State.firstPassAt; simp only
  split
  case h_2 => split <;> simp
  all_goals simp

@[simp] theorem State.frame_grantRaise (s : State) (p : Port) (d : Int) : (s.grantRaise p d).frame = s.frame := by
  unfold State.grantRaise; simp only
  split <;> split <;> simp

@[simp] theorem State.frame_secondPassAt (s : State) (item : Port × Class) : (s.secondPassAt item).frame = s.frame := by
  unfold State.secondPassAt; split <;> simp

@[simp] theorem State.frame_emitFrame (s : State) : s.emitFrame.frame = s.frame := by
  simp only [State.emitFrame]
  rw [State.frame_foldl State.frame_secondPassAt, State.frame_foldl State.frame_firstPassAt, State.frame_mapRecords]

@[simp] theorem State.frame_holdAt (s : State) (p : Port) : (s.holdAt p).frame = s.frame := by
  unfold State.holdAt; split <;> simp

@[simp] theorem State.frame_emitHeld (s : State) : s.emitHeld.frame = s.frame := State.frame_foldl State.frame_holdAt _ s

@[simp] theorem State.frame_primeAt (s : State) (p : Port) : (s.primeAt p).frame = s.frame := by
  unfold State.primeAt; split <;> simp

@[simp] theorem State.frame_emitPriming (s : State) : s.emitPriming.frame = s.frame := State.frame_foldl State.frame_primeAt _ s

/-! ### The effects of events -/

/-- What an event makes of the part before its end: the image read ended, a frame or a scan begun, a sample taken or missed, a message sent, a frame
rejected, or a frame accepted and answered by its owner (R135, R2, R58, R60, R62, R153, R148, R145). -/
inductive State.Effect (s : State) : State → Prop where
  | loaded (memory : List Byte) (reading : s.readProgress = .reading) : s.Effect (s.endLoading memory)
  | frame (due : s.frameDue = true) : s.Effect s.prepareFrame.workFrame
  | scanned (due : s.scanDue = true) (none : s.scan = none) : s.Effect (s.visit (List.finRange 16))
  | sampled (scan : Scan) (v : Int) (awaited : s.scan = some scan) :
    s.Effect ((s.sampleChannel scan.channel v).scanOn scan.channel)
  | missed (scan : Scan) (awaited : s.scan = some scan) : s.Effect ((s.missChannel scan.channel).scanOn scan.channel)
  | sent (p : Port) (m : Message) (sending : (s.link p).transmitter = .sending m) :
    s.Effect (s.setLink p { s.link p with transmitter := .idle })
  | rejected (p : Port) : s.Effect (s.rejectFrame p)
  | replied (p : Port) (m : Message) (reply : m.isReply = true) : s.Effect ((s.acceptFrame p).enqueue p m)
  | restart (p : Port) (none : s.restartPending = none) :
    s.Effect { (s.acceptFrame p).enqueue p (.ack 0x29#8 false true) with restartPending := some p }
  | joined (p : Port) (running : s.mode.running = true) (steerable : (s.config p).role.steerable = true) :
    s.Effect ((s.acceptFrame p).takeJoin p)
  | clusterReport (p : Port) (o a d : Nat) (running : s.mode.running = true) (role : (s.config p).role = .cluster) :
    s.Effect ((s.acceptFrame p).takeClusterReport p o a d)
  | storageReport (p : Port) (a : Int) (d c e k : Nat) (running : s.mode.running = true) (role : (s.config p).role = .storage) :
    s.Effect ((s.acceptFrame p).takeStorageReport p a d c e k)
  | yielded (p : Port) (v : Int) (running : s.mode.running = true) (steerable : (s.config p).role.steerable = true) :
    s.Effect ((s.acceptFrame p).takeYield p v)
  | left (p : Port) (running : s.mode.running = true) (steerable : (s.config p).role.steerable = true) :
    s.Effect ((s.acceptFrame p).takeLeave p)
  | pushed (p : Port) (b : ProfileBlock) (delay : Byte) (expiry : BitVec 16) (running : s.mode.running = true) :
    s.Effect ((s.acceptFrame p).takePush p b delay expiry)
  | dropped (p : Port) : s.Effect ((s.acceptFrame p).takeDrop p)
  | site (p : Port) (f : SiteFields) (standby : s.mode = .standby) : s.Effect ((s.acceptFrame p).takeSetSite p f)
  | port (p : Port) (f : PortFields) (standby : s.mode = .standby) : s.Effect ((s.acceptFrame p).takeSetPort p f)
  | chan (p : Port) (f : ChannelFields) (standby : s.mode = .standby) : s.Effect ((s.acceptFrame p).takeSetChan p f)
  | prof (p : Port) (b : ProfileBlock) (standby : s.mode = .standby) : s.Effect ((s.acceptFrame p).takeSetProf p b)
  | modeRun (p : Port) (standby : s.mode = .standby) : s.Effect ((s.acceptFrame p).runChecked p)
  | modeStandby (p : Port) (running : s.mode.running = true) : s.Effect (((s.acceptFrame p).ack p 0x27#8).enterStandby)
  | counters (p : Port) : s.Effect ((s.acceptFrame p).zeroCounters.ack p 0x28#8)
  | alarms (p : Port) (channel : Byte) : s.Effect ((s.acceptFrame p).takeClearAlarms p channel)
  | notices (p : Port) : s.Effect ((s.acceptFrame p).takeClearNotices p)

theorem State.Effect.nak (s : State) (p : Port) (k : Byte) (r : NakReason) : s.Effect ((s.acceptFrame p).nak p k r) :=
  .replied p _ rfl

theorem State.Effect.ack (s : State) (p : Port) (k : Byte) : s.Effect ((s.acceptFrame p).ack p k) :=
  .replied p _ rfl

theorem State.Effect.query (s : State) (p : Port) (target : Byte) (index : BitVec 16) :
    s.Effect ((s.acceptFrame p).takeQuery p target index) := by
  unfold State.takeQuery
  split
  · exact .replied p _ rfl
  · exact .nak s p _ _

/-- A MODE request, whatever its code (R142). -/
theorem State.Effect.mode (s : State) (p : Port) (code : Byte) :
    s.Effect ((s.acceptFrame p).takeMode p code) := by
  unfold State.takeMode State.takeModeStandby State.takeModeRun
  split
  · split
    case isTrue running => exact .modeStandby p (by simpa using running)
    case isFalse => exact .ack s p _
  · split
    case isTrue standby => exact .modeRun p (by simpa using standby)
    case isFalse => exact .ack s p _
  · exact .nak s p _ _

theorem State.Effect.clear (s : State) (p : Port) (selector channel : Byte) :
    s.Effect ((s.acceptFrame p).takeClear p selector channel) := by
  unfold State.takeClear
  split
  · exact .counters p
  · exact .alarms p channel
  · exact .notices p
  · exact .nak s p _ _

theorem State.Effect.restartRequest (s : State) (p : Port) : s.Effect ((s.acceptFrame p).takeRestartRequest p) := by
  unfold State.takeRestartRequest
  split
  case h_1 none => exact .restart p (by simpa using none)
  case h_2 => exact .ack s p _

/-- A request that reaches its owner has that owner's effect, or is refused by the mode (R145). -/
theorem State.Effect.take (s : State) (p : Port) (req : Request)
    (fits : lengthFits (s.config p).role req = true) (allowed : s.allows p req = true) :
    s.Effect ((s.acceptFrame p).take p req) := by
  have steerable (h : Request.ofController req = true) : (s.config p).role.steerable = true := by
    simpa [State.allows, h] using allowed
  cases req <;> simp only [State.take, State.acceptFrame_mode]
  case join => split; exacts [.joined p ‹_› (steerable rfl), .nak s p _ _]
  case reportCluster =>
    split
    · refine .clusterReport p _ _ _ ‹_› ?_
      have := steerable rfl
      cases h : (s.config p).role <;> simp_all [Role.steerable, lengthFits]
    · exact .nak s p _ _
  case reportStorage =>
    split
    · refine .storageReport p _ _ _ _ _ ‹_› ?_
      have := steerable rfl
      cases h : (s.config p).role <;> simp_all [Role.steerable, lengthFits]
    · exact .nak s p _ _
  case yield => split; exacts [.yielded p _ ‹_› (steerable rfl), .nak s p _ _]
  case leave => split; exacts [.left p ‹_› (steerable rfl), .nak s p _ _]
  case push => split; exacts [.pushed p _ _ _ ‹_›, .nak s p _ _]
  case drop => exact .dropped p
  case query => exact .query s p _ _
  case setSite => split; exacts [.site p _ ‹_›, .nak s p _ _]
  case setPort => split; exacts [.port p _ ‹_›, .nak s p _ _]
  case setChan => split; exacts [.chan p _ ‹_›, .nak s p _ _]
  case setProf => split; exacts [.prof p _ ‹_›, .nak s p _ _]
  case mode => exact .mode s p _
  case clear => exact .clear s p _ _
  case restart => exact .restartRequest s p

theorem State.Effect.takeLoading (s : State) (p : Port) (req : Request) : s.Effect ((s.acceptFrame p).takeLoading p req) := by
  unfold State.takeLoading
  split
  · split
    · exact .query s p _ _
    · exact .nak s p _ _
  · exact .nak s p _ _

theorem State.Effect.judge (s : State) (p : Port) (req : Request) : s.Effect ((s.acceptFrame p).judge p req) := by
  unfold State.judge
  simp only [State.acceptFrame_config, State.acceptFrame_mode, State.allows_acceptFrame]
  split
  · exact .nak s p _ _
  · split
    · exact .takeLoading s p req
    · split
      · exact .nak s p _ _
      · split
        · exact .nak s p _ _
        · exact .take s p req (by simp_all) (by simp_all)

theorem State.Effect.validate (s : State) (p : Port) (kind : Byte) (payload : List Byte) :
    s.Effect ((s.acceptFrame p).validate p kind payload) := by
  unfold State.validate
  split
  · exact .nak s p _ _
  · split
    · exact .nak s p _ _
    · exact .judge s p _

/-- What a command answers: the state as it stands, a restart, a receiver moved, or an effect with the end of its event. -/
inductive State.Answered (s : State) : State → Prop where
  | unchanged : s.Answered s
  | restarted (cause : RestartCause) : s.Answered (s.restarted cause)
  | moved (p : Port) (r : Receiver) : s.Answered (s.setReceiver p r)
  | settled {w : State} (effect : s.Effect w) : s.Answered w.settle

theorem State.Answered.expireFrame (s : State) : s.Answered s.expireFrame := by
  unfold State.expireFrame
  split
  · exact .settled (.frame ‹_›)
  · exact .unchanged

theorem State.Answered.expiredIf (s : State) (b : Bool) : s.Answered (if b then s.expireFrame else s) := by
  split
  · exact .expireFrame s
  · exact .unchanged

theorem State.Answered.takeByte (s : State) (p : Port) (b : Byte) : s.Answered (s.takeByte p b) := by
  unfold State.takeByte
  split
  · split
    exacts [.moved p _, .unchanged]
  · exact .moved p _
  · split
    · exact .settled (.rejected p)
    · split
      exacts [.moved p _, .moved p _]
  · split
    exacts [.moved p _, .moved p _]
  · split
    · exact .settled (.validate s p _ _)
    · exact .settled (.rejected p)

theorem State.Answered.takeBadByte (s : State) (p : Port) : s.Answered (s.takeBadByte p) := by
  unfold State.takeBadByte
  split
  exacts [.unchanged, .settled (.rejected p)]

theorem State.Answered.endSending (s : State) (p : Port) : s.Answered (s.endSending p) := by
  unfold State.endSending
  split
  exacts [.unchanged, .settled (.sent p _ ‹_›)]

/-- Every command answers a next state, and that is what it can be. -/
theorem exec_answered (c : Instr) (s : State) : ∃ t, exec c s = .next t ∧ s.Answered t := by
  by_cases request : ∃ p r, c.request = some (p, r)
  · obtain ⟨p, r, h⟩ := request
    exact ⟨_, exec_of_request h s, .settled (.judge s p r)⟩
  · cases c
    case powerOn => exact ⟨_, rfl, .restarted _⟩
    case resetLine => exact ⟨_, rfl, .restarted _⟩
    case configReadComplete memory =>
      refine ⟨_, rfl, ?_⟩
      split
      exacts [.settled (.loaded memory ‹_›), .unchanged]
    case frameExpiry => exact ⟨_, rfl, .expireFrame s⟩
    case primingEnd => exact ⟨_, rfl, .expiredIf s _⟩
    case profileActivation => exact ⟨_, rfl, .expiredIf s _⟩
    case profileExpiry => exact ⟨_, rfl, .expiredIf s _⟩
    case yieldTimeout => exact ⟨_, rfl, .expiredIf s _⟩
    case silenceTimeout => exact ⟨_, rfl, .expiredIf s _⟩
    case scanExpiry =>
      refine ⟨_, rfl, ?_⟩
      split
      case isTrue h =>
        simp only [Bool.and_eq_true, Option.isNone_iff_eq_none] at h
        exact .settled (.scanned h.1 h.2)
      case isFalse => exact .unchanged
    case sampleReceived high mid low status =>
      simp only [exec, execSampleReceived]
      split
      case h_1 => exact ⟨_, rfl, .unchanged⟩
      case h_2 scan awaited =>
        refine ⟨_, rfl, ?_⟩
        split
        exacts [.settled (.sampled scan _ awaited), .settled (.missed scan awaited)]
    case converterAnswerTimeout =>
      simp only [exec, execConverterAnswerTimeout]
      split
      case h_1 => exact ⟨_, rfl, .unchanged⟩
      case h_2 scan awaited => exact ⟨_, rfl, .settled (.missed scan awaited)⟩
    case frameRejected p => exact ⟨_, rfl, .settled (.rejected p)⟩
    case interByteGapTimeout p => exact ⟨_, rfl, .takeBadByte s p⟩
    case unknownKind p kind payload => exact ⟨_, rfl, .settled (.validate s p kind payload)⟩
    case restartTaken =>
      simp only [exec, execRestartTaken]
      split
      · exact ⟨_, rfl, .unchanged⟩
      · refine ⟨_, rfl, ?_⟩
        split
        exacts [.unchanged, .restarted _]
    case transmitComplete p => exact ⟨_, rfl, .endSending s p⟩
    case linkByteReceived p b stopBit =>
      refine ⟨_, rfl, ?_⟩
      split
      exacts [.takeByte s p b, .takeBadByte s p]
    all_goals exact absurd ⟨_, _, rfl⟩ request

/-! ### Laws carried over every step -/

/-- The end of an event: idle transmitters take what waits, or a due restart is taken. -/
theorem State.settle_cases (s : State) :
    s.settle = s.mapLinks (fun _ l => l.startSending) ∨ ∃ cause, s.settle = s.restarted cause := by
  unfold State.settle State.takeRestart
  split
  case h_1 p due => exact .inr ⟨.command p, rfl⟩
  case h_2 => exact .inl rfl

/-- A law `P` holds after every step where it does not look at the queue of commands, a restart and a receiver's move keep it, and every effect leaves
what the transmitters restore to it. -/
theorem step_keeps {P Q : State → Prop} (queue : ∀ (s : State) rest, P s → P { s with pending := rest })
    (restarted : ∀ (s : State) cause, P (s.restarted cause)) (moved : ∀ (s : State) p r, P s → P (s.setReceiver p r))
    (effect : ∀ s w, P s → s.Effect w → Q w) (sending : ∀ w : State, Q w → P (w.mapLinks fun _ l => l.startSending))
    {s t : State} (hs : P s) (h : step s = .next t) : P t := by
  unfold step at h
  split at h
  · cases h; exact hs
  case h_2 c rest _ =>
    obtain ⟨u, hu, answered⟩ := exec_answered c { s with pending := rest }
    rw [hu] at h
    cases h
    have hs' := queue s rest hs
    cases answered with
    | unchanged => exact hs'
    | restarted cause => exact restarted _ cause
    | moved p r => exact moved _ p r hs'
    | settled e =>
      rename_i w
      rcases w.settle_cases with sent | ⟨cause, taken⟩
      · rw [sent]; exact sending w (effect _ w hs' e)
      · rw [taken]; exact restarted w cause

end Sys2Proof.Machine
end

section
/-! Which fields each larger operation writes, said once as an equation with what it writes left open. -/

namespace Sys2Proof.Machine

/-! ### What the larger operations write -/

theorem State.exists_of_frame {s t : State} (h : t.frame = s.frame) : ∃ r l, t = { s with records := r, links := l } :=
  ⟨_, _, State.eq_of_frame h⟩

theorem State.changeMode_eq (s : State) (m : Mode) : ∃ l, s.changeMode m = { s with mode := m, links := l } :=
  ⟨_, State.changeMode_frame m s⟩

theorem State.listChange_eq (s : State) (c : ListCause) (p : Option Port) : ∃ l, s.listChange c p = { s with links := l } :=
  ⟨_, State.listChange_frame c p s⟩

theorem State.enterStandby_eq (s : State) : ∃ r l, s.enterStandby =
    { s with
      mode := .standby, frameTimer := .stopped, scanTimer := .stopped, scan := none, entries := [], records := r, links := l } := by
  obtain ⟨r, l, released⟩ := State.exists_of_frame (State.frame_foldl State.frame_releasePort (List.finRange 12) s)
  rw [State.enterStandby, released]
  split
  · obtain ⟨l', eq⟩ := State.changeMode_eq _ .standby
    exact ⟨_, l', eq⟩
  · obtain ⟨l', eq⟩ := State.listChange_eq _ .discarded none
    rw [eq]
    obtain ⟨l', eq⟩ := State.changeMode_eq _ .standby
    exact ⟨_, l', eq⟩
theorem State.enterPriming_eq (s : State) : ∃ r l, s.enterPriming =
    { s with
      mode := .priming, frameTimer := .running s.site.framePeriod, frameNumber := 0, primingCounter := 0, reference := 0, target := 0
      storageNet := 0, ring := [], windowBase := 1, sinceBase := 0, reseedPending := false, complianceLatched := false
      scanTimer := .running s.site.scanPeriod, sweepStart := 0, sweepLfsr := seededLfsr s.site.seed
      sweepOrder := sweepOrderOf s.site.sweepMode 0, channels := (s.mapChannels fun _ c => c.restarted).channels
      records := r, links := l } := by
  obtain ⟨l, eq⟩ := State.changeMode_eq _ .priming
  exact ⟨_, l, eq⟩

theorem State.enterHolding_eq (s : State) : ∃ r l, s.enterHolding =
    { s with mode := .holding, holdingEntries := advance s.holdingEntries, records := r, links := l } :=
  ⟨_, _, State.changeMode_frame _ _⟩

theorem State.visit_eq (is : List ChannelIndex) (s : State) : ∃ sc ch, s.visit is = { s with scan := sc, channels := ch } := by
  induction is generalizing s with
  | nil => exact ⟨_, _, rfl⟩
  | cons i is ih =>
    unfold State.visit
    simp only
    split
    · exact ih s
    · split
      · exact ⟨_, _, rfl⟩
      · obtain ⟨sc, ch, eq⟩ := ih (s.setChannel i { s.channel i with skipCounter := (s.channel i).skipCounter - 1 })
        exact ⟨sc, ch, eq⟩

theorem State.meterReturn_eq (s : State) : ∃ l, s.meterReturn =
    { s with mode := if s.mode = .holding then .governing else s.mode, links := l } := by
  unfold State.meterReturn
  split
  · exact State.changeMode_eq s _
  · exact ⟨_, rfl⟩

/-- A sample changes its channel, and the mode where it returns the meter in HOLDING (R63, R68). -/
theorem State.sampleChannel_eq (s : State) (i : ChannelIndex) (v : Int) : ∃ m l,
    (m = s.mode ∨ s.mode = .holding ∧ m = .governing ∧ (s.channel i).returnsMeter = true ∧ ((s.channel i).newValue v).isSome = true) ∧
    s.sampleChannel i v = { s with mode := m, channels := (s.setChannel i ((s.channel i).takeSample v)).channels, links := l } := by
  unfold State.sampleChannel
  simp only
  split
  · exact ⟨s.mode, _, .inl rfl, rfl⟩
  case h_2 value found =>
    have raised (ns : List Notice) : ∃ l, (s.setChannel i ((s.channel i).takeSample v)).raiseAll ns =
        { s with channels := (s.setChannel i ((s.channel i).takeSample v)).channels, links := l } := ⟨_, State.raiseAll_frame ns _⟩
    obtain ⟨l, eq⟩ := raised ((s.channel i).alarmNotices i value)
    rw [eq]
    split
    case isTrue returns =>
      obtain ⟨l', eq'⟩ := State.meterReturn_eq
        (State.raise { s with channels := (s.setChannel i ((s.channel i).takeSample v)).channels, links := l } (.meterBack i value))
      refine ⟨_, l', ?_, eq'⟩
      simp only [State.raise_mode]
      split
      · exact .inr ⟨‹_›, rfl, returns, by rw [found]; rfl⟩
      · exact .inl rfl
    · exact ⟨s.mode, l, .inl rfl, rfl⟩

/-- A missing sample changes its channel, and in GOVERNING the mode and the records where it loses the meter (R62, R67). -/
theorem State.missChannel_eq (s : State) (i : ChannelIndex) : ∃ l,
    s.missChannel i = { s with channels := (s.setChannel i (s.channel i).takeMissing).channels, links := l } ∧
      (s.mode = .governing → (s.channel i).losesMeter = false) ∨
    s.mode = .governing ∧ (s.channel i).losesMeter = true ∧
      s.missChannel i =
        { s with
          mode := .holding, holdingEntries := advance s.holdingEntries
          channels := (s.setChannel i (s.channel i).takeMissing).channels
          records := (s.mapRecords fun _ r => { r with staged := none }).records, links := l } := by
  rcases s.missChannel_cases i with ⟨keeps, eq⟩ | ⟨_, mode, eq⟩ | ⟨loses, mode, eq⟩
  · exact ⟨_, .inl ⟨eq, fun _ => keeps⟩⟩
  · exact ⟨_, .inl ⟨eq, fun h => absurd h mode⟩⟩
  · exact ⟨_, .inr ⟨mode, loses, eq.trans (State.changeMode_frame _ _)⟩⟩

theorem State.ageRecords_eq (s : State) : ∃ o l, s.ageRecords =
    { s with openChoices := o, records := (s.mapRecords fun p _ => (s.aged p).1).records, links := l } :=
  ⟨_, _, State.raiseAll_frame _ _⟩

theorem State.foldl_listChange_eq (changes : List (ListCause × Port)) (s : State) : ∃ l,
    changes.foldl (fun t (change : ListCause × Port) => t.listChange change.1 (some change.2)) s = { s with links := l } := by
  induction changes generalizing s with
  | nil => exact ⟨_, rfl⟩
  | cons change changes ih =>
    obtain ⟨l, eq⟩ := ih (s.listChange change.1 (some change.2))
    exact ⟨l, eq⟩

theorem State.updateList_eq (s : State) : ∃ l, s.updateList =
    { (if s.entries.any fun e => e.tick.reseed then { s with entries := tickedEntries s.entries }.reseed
        else { s with entries := tickedEntries s.entries }) with links := l } :=
  State.foldl_listChange_eq _ _

theorem State.updateList_eq' (s : State) : ∃ b n r l, s.updateList =
    { s with entries := tickedEntries s.entries, windowBase := b, sinceBase := n, reseedPending := r, links := l } := by
  obtain ⟨l, eq⟩ := s.updateList_eq
  split at eq
  · exact ⟨_, _, _, l, eq⟩
  · exact ⟨_, _, _, l, eq⟩

theorem State.numberFrame_eq (s : State) : ∃ n, s.numberFrame = { s with frameNumber := n } := by
  unfold State.numberFrame; split <;> exact ⟨_, rfl⟩

theorem State.prepareFrame_eq (s : State) : ∃ o b n r l, s.prepareFrame =
    { s with
      frameNumber := s.numberFrame.frameNumber, openChoices := o, entries := tickedEntries s.entries, windowBase := b, sinceBase := n
      reseedPending := r, records := (s.mapRecords fun p _ => (s.numberFrame.aged p).1).records, links := l } := by
  have numbered := s.numberFrame_eq
  rw [State.prepareFrame]
  generalize s.numberFrame = u at *
  obtain ⟨f, rfl⟩ := numbered
  obtain ⟨o, l, aged⟩ := State.ageRecords_eq { s with frameNumber := f }
  obtain ⟨b, n, r, l', listed⟩ := State.updateList_eq' (State.ageRecords { s with frameNumber := f })
  rw [listed, aged]
  exact ⟨o, b, n, r, l', rfl⟩

theorem State.mode_prepareFrame (s : State) : s.prepareFrame.mode = s.mode := by
  obtain ⟨o, b, n, r, l, eq⟩ := s.prepareFrame_eq
  rw [eq]

theorem State.reportStages_eq (s : State) (st : Stages) : ∃ c e l, s.reportStages st =
    { s with windowConflicts := c, excursions := e, links := l } := by
  unfold State.reportStages
  simp only
  split <;> split <;> exact ⟨_, _, _, rfl⟩

theorem State.appendRecord_eq (s : State) (profile : Profile) (r : FrameRecord) : ∃ ring n c e l, s.appendRecord profile r =
    { s with ring := ring, sinceBase := n, reseedPending := false, complianceLatched := c, complianceEpisodes := e, links := l } := by
  unfold State.appendRecord State.checkCompliance
  split
  · exact ⟨_, _, _, _, _, rfl⟩
  · simp only
    split
    · exact ⟨_, _, _, _, _, rfl⟩
    · split <;> exact ⟨_, _, _, _, _, rfl⟩



/-- The state a governing frame computes on: the sweep advanced, the availabilities formed (R78, R79, R92). -/
def State.readied (s : State) : State := s.advanceSweep.formAvailabilities

/-- The target of a governing frame (R10). -/
def State.frameTarget (s : State) : Int := s.readied.targetPower s.activeProfile

/-- What the stages of a governing frame give (R13 to R17). -/
def State.frameStages (s : State) : Stages := s.readied.stagesNow s.activeProfile s.frameTarget

/-- The storage net target of a governing frame (R18). -/
def State.frameNet (s : State) : Int := s.readied.storageTargetNow s.activeProfile s.frameStages.reference s.frameTarget

/-- The marks of a governing frame's record (R27). -/
def State.frameMarks (s : State) : Marks :=
  { Marks.empty with windowConflict := s.frameStages.conflict.isSome, excursion := s.frameStages.shortfall.isSome }

/-- A governing frame with its stages reported, S split and its figures committed (R15, R17, R21, R87). -/
def State.figured (s : State) : State :=
  { (s.readied.reportStages s.frameStages).splitStorage s.frameNet with
    reference := s.frameStages.reference, target := s.frameTarget, storageNet := s.readied.actualNet s.frameNet }

/-- A governing frame with its record appended (R28). -/
def State.recorded (s : State) : State := s.figured.appendRecord s.activeProfile (s.figured.frameRecord s.frameMarks)

/-- A governing frame with the cluster budget divided, before its emission (R98 to R105). -/
def State.divided (s : State) : State :=
  s.recorded.allocate s.activeProfile (s.frameStages.reference - s.readied.actualNet s.frameNet)

theorem State.governFrame_eq (s : State) : s.governFrame = s.divided.emitFrame := rfl

theorem State.readied_eq (s : State) : ∃ r, s.readied =
    { s with
      sweepStart := s.advanceSweep.sweepStart, sweepLfsr := s.advanceSweep.sweepLfsr
      sweepOrder := sweepOrderOf s.site.sweepMode s.advanceSweep.sweepStart, records := r } :=
  ⟨_, rfl⟩

theorem State.figured_eq (s : State) : ∃ c e r l, s.figured =
    { s with
      sweepStart := s.advanceSweep.sweepStart, sweepLfsr := s.advanceSweep.sweepLfsr
      sweepOrder := sweepOrderOf s.site.sweepMode s.advanceSweep.sweepStart
      reference := s.frameStages.reference, target := s.frameTarget, storageNet := s.readied.actualNet s.frameNet
      windowConflicts := c, excursions := e, records := r, links := l } := by
  obtain ⟨r, ready⟩ := s.readied_eq
  obtain ⟨c, e, l, reported⟩ := s.readied.reportStages_eq s.frameStages
  obtain ⟨r', l', split⟩ := State.exists_of_frame (State.frame_splitStorage (s.readied.reportStages s.frameStages) s.frameNet)
  refine ⟨c, e, r', l', ?_⟩
  unfold State.figured
  rw [split, reported]
  generalize s.frameStages.reference = ref, s.frameTarget = tgt, s.readied.actualNet s.frameNet = net
  rw [ready]

/-- The governing frame writes the sweep, the governor's figures, the ring and its counters, records and links (R10 to R21, R92, R107). -/
theorem State.divided_eq (s : State) : ∃ c e ring n cl ce r l, s.divided =
    { s with
      sweepStart := s.advanceSweep.sweepStart, sweepLfsr := s.advanceSweep.sweepLfsr
      sweepOrder := sweepOrderOf s.site.sweepMode s.advanceSweep.sweepStart
      reference := s.frameStages.reference, target := s.frameTarget, storageNet := s.readied.actualNet s.frameNet
      windowConflicts := c, excursions := e, ring := ring, sinceBase := n, reseedPending := false
      complianceLatched := cl, complianceEpisodes := ce, records := r, links := l } := by
  obtain ⟨c, e, r, l, figured⟩ := s.figured_eq
  obtain ⟨ring, n, cl, ce, l', recorded⟩ := s.figured.appendRecord_eq s.activeProfile (s.figured.frameRecord s.frameMarks)
  obtain ⟨r', l'', divided⟩ := State.exists_of_frame (State.frame_allocate s.recorded s.activeProfile
    (s.frameStages.reference - s.readied.actualNet s.frameNet))
  refine ⟨c, e, ring, n, cl, ce, r', l'', ?_⟩
  unfold State.divided
  rw [divided, State.recorded, recorded, figured]

theorem State.holdFrame_eq (s : State) : ∃ tgt ring n cl ce r l, s.holdFrame =
    { s with
      target := tgt, ring := ring, sinceBase := n, reseedPending := false, complianceLatched := cl, complianceEpisodes := ce
      records := r, links := l } := by
  unfold State.holdFrame
  extract_lets profile targeted
  obtain ⟨ring, n, cl, ce, l, appended⟩ := targeted.appendRecord_eq profile (targeted.frameRecord { Marks.empty with hold := true })
  obtain ⟨r, l', emitted⟩ := State.exists_of_frame (State.frame_emitHeld (targeted.appendRecord profile (targeted.frameRecord { Marks.empty with hold := true })))
  rw [emitted, appended]
  exact ⟨_, ring, n, cl, ce, r, l', rfl⟩


theorem State.endPriming_eq (s : State) (power : Int) : ∃ l, s.endPriming power =
    { s with
      mode := .governing, reference := clamp 0 s.site.exportLimit power, windowBase := 1, sinceBase := 0, links := l } :=
  State.changeMode_eq _ _

/-- The priming counter at this expiry (R5). -/
def State.primingCount (s : State) : Nat := countUp s.site.primingFrames s.primingCounter

/-- The PRIMING frame that ends PRIMING (R6). -/
theorem State.primeFrame_seeds {s : State} {power : Int} (h : s.primed s.primingCount = some power) :
    s.primeFrame = ({ s with primingCounter := s.primingCount }.endPriming power).emitPriming := by
  have same : State.primed { s with primingCounter := s.primingCount } s.primingCount = some power := h
  unfold State.primeFrame
  exact congrArg State.emitPriming (by simp only [State.primingCount] at same; simp only [same, State.primingCount])

/-- A PRIMING frame that leaves PRIMING as it is (R5). -/
theorem State.primeFrame_waits {s : State} (h : s.primed s.primingCount = none) :
    s.primeFrame = { s with primingCounter := s.primingCount }.emitPriming := by
  have same : State.primed { s with primingCounter := s.primingCount } s.primingCount = none := h
  unfold State.primeFrame
  exact congrArg State.emitPriming (by simp only [State.primingCount] at same; simp only [same, State.primingCount])

theorem State.primeFrame_eq_of_some {s : State} {power : Int} (h : s.primed s.primingCount = some power) : ∃ r l, s.primeFrame =
    { s with
      primingCounter := s.primingCount, mode := .governing, reference := clamp 0 s.site.exportLimit power, windowBase := 1
      sinceBase := 0, records := r, links := l } := by
  obtain ⟨l, ended⟩ := State.endPriming_eq { s with primingCounter := s.primingCount } power
  obtain ⟨r, l', emitted⟩ := State.exists_of_frame (State.frame_emitPriming ({ s with primingCounter := s.primingCount }.endPriming power))
  exact ⟨r, l', (State.primeFrame_seeds h).trans (emitted.trans (by rw [ended]))⟩

theorem State.primeFrame_eq_of_none {s : State} (h : s.primed s.primingCount = none) : ∃ r l, s.primeFrame =
    { s with primingCounter := s.primingCount, records := r, links := l } := by
  obtain ⟨r, l, emitted⟩ := State.exists_of_frame (State.frame_emitPriming { s with primingCounter := s.primingCount })
  exact ⟨r, l, (State.primeFrame_waits h).trans emitted⟩

/-- The entries of a list after `n` removals of the oldest BOUND entry of a port (R50). -/
theorem unbindOldest_sublist {p : Port} {es rest : List Entry} (h : unbindOldest p es = some rest) : rest.Sublist es := by
  induction es generalizing rest with
  | nil => cases h
  | cons e es ih =>
    unfold unbindOldest at h
    split at h
    · cases h; exact List.sublist_cons_self e es
    · obtain ⟨rest', found, rfl⟩ := Option.map_eq_some_iff.1 h
      exact (ih found).cons_cons e

theorem State.unbindTimes_eq (p : Port) (n : Nat) (s : State) : ∃ es l, es.Sublist s.entries ∧
    State.unbindTimes p n s = { s with entries := es, links := l } := by
  induction n generalizing s with
  | zero => exact ⟨_, _, List.Sublist.refl _, rfl⟩
  | succ n ih =>
    unfold State.unbindTimes
    split
    case h_1 => exact ⟨_, _, List.Sublist.refl _, rfl⟩
    case h_2 rest found =>
      obtain ⟨l, changed⟩ := State.listChange_eq { s with entries := rest } .unbound (some p)
      rw [changed]
      obtain ⟨es, l', sub, eq⟩ := ih { s with entries := rest, links := l }
      exact ⟨es, l', sub.trans (unbindOldest_sublist found), eq⟩

/-- A rejected frame changes the link, and where it loses the link the port's record and the list (R149, R150). -/
theorem State.rejectFrame_eq (s : State) (p : Port) : ∃ es r l, es.Sublist s.entries ∧
    s.rejectFrame p = { s with entries := es, records := r, links := l } := by
  have silenced (t : State) : ∃ r l, (t.setLink p (t.link p).down).silencePort p = { t with records := r, links := l } :=
    State.exists_of_frame ((State.frame_silencePort _ p).trans (State.frame_setLink _ _ _))
  unfold State.rejectFrame State.loseLink
  simp only
  split
  · obtain ⟨r, l, silent⟩ := silenced (s.setLink p (s.link p).reject)
    rw [silent]
    split
    · obtain ⟨es, l', sub, eq⟩ := State.unbindTimes_eq p s.entries.length { s with records := r, links := l }
      exact ⟨es, r, l', sub, eq⟩
    · exact ⟨_, r, l, List.Sublist.refl _, rfl⟩
  · exact ⟨_, _, _, List.Sublist.refl _, rfl⟩

theorem State.acceptFrame_eq (s : State) (p : Port) : ∃ r l, s.acceptFrame p = { s with records := r, links := l } :=
  ⟨_, _, rfl⟩

/-! ### What the owners of requests write -/

theorem State.takePush_cases (s : State) (p : Port) (b : ProfileBlock) (delay : Byte) (expiry : BitVec 16) :
    (∃ l, s.takePush p b delay expiry = { s with links := l }) ∨
    s.entries.length < 4 ∧
      ∃ l, s.takePush p b delay expiry = { s with entries := s.entries ++ [pushedEntry p b delay expiry], links := l } := by
  unfold State.takePush
  split
  · exact .inl ⟨_, rfl⟩
  case isFalse room => exact .inr ⟨Nat.lt_of_not_le room, State.listChange_eq _ _ _⟩

theorem State.takeDrop_cases (s : State) (p : Port) :
    (∃ l, s.takeDrop p = { s with links := l }) ∨
    ∃ rest, dropNewest p s.entries = some rest ∧ ∃ l, s.takeDrop p = { s with entries := rest, links := l } := by
  unfold State.takeDrop
  split
  · exact .inl ⟨_, rfl⟩
  case h_2 rest found => exact .inr ⟨rest, found, State.listChange_eq _ _ _⟩

theorem State.takeSetSite_cases (s : State) (p : Port) (f : SiteFields) :
    (∃ l, s.takeSetSite p f = { s with links := l }) ∨
    ∃ site, siteOf f = some site ∧ ∃ l, s.takeSetSite p f = { s with site := site, links := l } := by
  unfold State.takeSetSite
  split
  case h_1 site found => exact .inr ⟨site, found, _, rfl⟩
  · exact .inl ⟨_, rfl⟩

theorem State.takeSetPort_cases (s : State) (p : Port) (f : PortFields) :
    (∃ l, s.takeSetPort p f = { s with links := l }) ∨
    ∃ target c, portConfigOf f = some (target, c) ∧ ∃ l, s.takeSetPort p f =
      { s with
        portTable := s.portTable.set target c, records := (s.setRecord target { s.record target with committed := c.rest }).records
        links := l } := by
  unfold State.takeSetPort
  split
  case h_1 target c found => exact .inr ⟨target, c, found, _, rfl⟩
  · exact .inl ⟨_, rfl⟩

theorem State.takeSetChan_cases (s : State) (p : Port) (f : ChannelFields) :
    (∃ l, s.takeSetChan p f = { s with links := l }) ∨
    ∃ i c, channelConfigOf f = some (i, c) ∧
      ∃ l, s.takeSetChan p f = { s with channels := (s.setChannel i (configuredChannel c)).channels, links := l } := by
  unfold State.takeSetChan
  split
  case h_1 i c found => exact .inr ⟨i, c, found, _, rfl⟩
  · exact .inl ⟨_, rfl⟩

theorem State.takeSetProf_cases (s : State) (p : Port) (b : ProfileBlock) :
    (∃ l, s.takeSetProf p b = { s with links := l }) ∨
    ∃ profile, defaultProfileOf b = some profile ∧ ∃ l, s.takeSetProf p b = { s with defaultProfile := profile, links := l } := by
  unfold State.takeSetProf
  split
  case h_1 profile found => exact .inr ⟨profile, found, State.listChange_eq _ _ _⟩
  · exact .inl ⟨_, rfl⟩

theorem State.runChecked_cases (s : State) (p : Port) :
    (s.inForce.crossCheck ≠ .passed ∧ ∃ l, s.runChecked p = { s with checkResult := s.inForce.crossCheck, links := l }) ∨
    s.inForce.crossCheck = .passed ∧ ∃ l, s.runChecked p = { s with checkResult := .passed, links := l }.enterPriming := by
  unfold State.runChecked
  generalize s.inForce.crossCheck = result
  simp only
  split
  case isTrue passed =>
    subst passed
    exact .inr ⟨rfl, _, congrArg State.enterPriming (State.ack_frame p _ _)⟩
  case isFalse failed => exact .inl ⟨failed, _, rfl⟩

/-- CLEAR ALARMS touches channels only, each cleared or as it stands (R71). -/
theorem State.takeClearAlarms_eq (s : State) (p : Port) (channel : Byte) : ∃ (ch : Vector Channel 16) (l : Vector LinkPort 12),
    (∀ c : ChannelIndex, ch[c] = s.channel c ∨ ch[c] = (s.channel c).alarmsCleared) ∧
    s.takeClearAlarms p channel = { s with channels := ch, links := l } := by
  unfold State.takeClearAlarms
  split
  · refine ⟨_, _, fun c => .inr ?_, rfl⟩
    exact State.channel_mapChannels s (fun _ c => c.alarmsCleared) c
  · split
    case h_1 d _ =>
      refine ⟨_, _, fun c => ?_, rfl⟩
      have cleared := State.channel_setChannel s d c (s.channel d).alarmsCleared
      by_cases h : c = d
      · subst h; rw [if_pos rfl] at cleared; exact .inr cleared
      · rw [if_neg h] at cleared; exact .inl cleared
    · exact ⟨_, _, fun c => .inl rfl, rfl⟩

theorem State.zeroCounters_eq (s : State) : ∃ l, s.zeroCounters =
    { s with
      excursions := 0, windowConflicts := 0, complianceEpisodes := 0, holdingEntries := 0
      channels := (s.mapChannels fun _ c => { c with missing := 0 }).channels
      records := (s.mapRecords fun _ r => { r with yieldsRefused := 0, recallTimeouts := 0 }).records, links := l } :=
  ⟨_, rfl⟩

/-! ### What an effect can do to the state besides its records and links -/

/-- The part of an effect that lies outside records and links. -/
inductive State.Shape (s : State) (w : State) : Prop where
  | kept (frame : w.frame = s.frame)
  | loaded (memory : List Byte) (reading : s.readProgress = .reading) (eq : w = s.endLoading memory)
  | expired (due : s.frameDue = true) (eq : w = s.prepareFrame.workFrame)
  | scanned (due : s.scanDue = true) (none : s.scan = none) (eq : w = s.visit (List.finRange 16))
  | sampled (scan : Scan) (v : Int) (awaited : s.scan = some scan) (eq : w = (s.sampleChannel scan.channel v).scanOn scan.channel)
  | missed (scan : Scan) (awaited : s.scan = some scan) (eq : w = (s.missChannel scan.channel).scanOn scan.channel)
  | cut (es : List Entry) (sub : es.Sublist s.entries) (frame : w.frame = { s with entries := es }.frame)
  | restart (p : Port) (frame : w.frame = { s with restartPending := some p }.frame)
  | pushed (p : Port) (b : ProfileBlock) (delay : Byte) (expiry : BitVec 16) (room : s.entries.length < 4)
      (frame : w.frame = { s with entries := s.entries ++ [pushedEntry p b delay expiry] }.frame)
  | site (f : SiteFields) (site : SiteRecord) (standby : s.mode = .standby) (found : siteOf f = some site)
      (frame : w.frame = { s with site := site }.frame)
  | port (f : PortFields) (p : Port) (c : PortConfig) (standby : s.mode = .standby) (found : portConfigOf f = some (p, c))
      (frame : w.frame = { s with portTable := s.portTable.set p c }.frame)
  | chan (f : ChannelFields) (i : ChannelIndex) (c : ChannelConfig) (standby : s.mode = .standby)
      (found : channelConfigOf f = some (i, c))
      (frame : w.frame = { s with channels := (s.setChannel i (configuredChannel c)).channels }.frame)
  | prof (b : ProfileBlock) (profile : Profile) (standby : s.mode = .standby) (found : defaultProfileOf b = some profile)
      (frame : w.frame = { s with defaultProfile := profile }.frame)
  | checked (result : CheckResult) (standby : s.mode = .standby) (frame : w.frame = { s with checkResult := result }.frame)
  | started (t : State) (standby : s.mode = .standby) (passed : s.inForce.crossCheck = .passed)
      (frame : t.frame = { s with checkResult := .passed }.frame) (eq : w = t.enterPriming)
  | stopped (t : State) (running : s.mode.running = true) (frame : t.frame = s.frame) (eq : w = t.enterStandby)
  | counters (frame : w.frame =
      { s with
        excursions := 0, windowConflicts := 0, complianceEpisodes := 0, holdingEntries := 0
        channels := (s.mapChannels fun _ c => { c with missing := 0 }).channels }.frame)
  | alarms (ch : Vector Channel 16) (each : ∀ c : ChannelIndex, ch[c] = s.channel c ∨ ch[c] = (s.channel c).alarmsCleared)
      (frame : w.frame = { s with channels := ch }.frame)

theorem State.inForce_acceptFrame (s : State) (p : Port) : (s.acceptFrame p).inForce = s.inForce := by
  simp [State.inForce]

theorem dropNewest_sublist {p : Port} {es rest : List Entry} (h : dropNewest p es = some rest) : rest.Sublist es := by
  induction es generalizing rest with
  | nil => cases h
  | cons e es ih =>
    unfold dropNewest at h
    split at h
    case h_1 rest' found =>
      cases h
      exact (ih found).cons_cons e
    case h_2 =>
      split at h
      · cases h; exact List.sublist_cons_self e es
      · cases h

theorem State.Effect.shape {s w : State} (e : s.Effect w) : s.Shape w := by
  have accepted (p : Port) : ∃ r l, s.acceptFrame p = { s with records := r, links := l } := s.acceptFrame_eq p
  cases e with
  | loaded memory reading => exact .loaded memory reading rfl
  | frame due => exact .expired due rfl
  | scanned due none => exact .scanned due none rfl
  | sampled scan v awaited => exact .sampled scan v awaited rfl
  | missed scan awaited => exact .missed scan awaited rfl
  | sent p m => exact .kept rfl
  | rejected p =>
    obtain ⟨es, r, l, sub, eq⟩ := s.rejectFrame_eq p
    exact .cut es sub (by rw [eq]; rfl)
  | replied p m => exact .kept (by simp)
  | restart p =>
    obtain ⟨r, l, eq⟩ := State.exists_of_frame ((State.frame_enqueue (s.acceptFrame p) p (.ack 0x29#8 false true)).trans (s.frame_acceptFrame p))
    rw [eq]
    exact .restart p rfl
  | joined p => exact .kept (by simp)
  | clusterReport p => exact .kept (by simp)
  | storageReport p => exact .kept (by simp)
  | yielded p => exact .kept (by simp)
  | left p => exact .kept (by simp)
  | pushed p b delay expiry =>
    obtain ⟨r, l, eq⟩ := accepted p
    rw [eq]
    rcases State.takePush_cases { s with records := r, links := l } p b delay expiry with ⟨l', eq⟩ | ⟨room, l', eq⟩
    · exact .kept (by rw [eq]; rfl)
    · exact .pushed p b delay expiry room (by rw [eq]; rfl)
  | dropped p =>
    obtain ⟨r, l, eq⟩ := accepted p
    rw [eq]
    rcases State.takeDrop_cases { s with records := r, links := l } p with ⟨l', eq⟩ | ⟨rest, found, l', eq⟩
    · exact .kept (by rw [eq]; rfl)
    · exact .cut rest (dropNewest_sublist found) (by rw [eq]; rfl)
  | site p f standby =>
    obtain ⟨r, l, eq⟩ := accepted p
    rw [eq]
    rcases State.takeSetSite_cases { s with records := r, links := l } p f with ⟨l', eq⟩ | ⟨site, found, l', eq⟩
    · exact .kept (by rw [eq]; rfl)
    · exact .site f site standby found (by rw [eq]; rfl)
  | port p f standby =>
    obtain ⟨r, l, eq⟩ := accepted p
    rw [eq]
    rcases State.takeSetPort_cases { s with records := r, links := l } p f with ⟨l', eq⟩ | ⟨target, c, found, l', eq⟩
    · exact .kept (by rw [eq]; rfl)
    · exact .port f target c standby found (by rw [eq]; rfl)
  | chan p f standby =>
    obtain ⟨r, l, eq⟩ := accepted p
    rw [eq]
    rcases State.takeSetChan_cases { s with records := r, links := l } p f with ⟨l', eq⟩ | ⟨i, c, found, l', eq⟩
    · exact .kept (by rw [eq]; rfl)
    · exact .chan f i c standby found (by rw [eq]; rfl)
  | prof p b standby =>
    obtain ⟨r, l, eq⟩ := accepted p
    rw [eq]
    rcases State.takeSetProf_cases { s with records := r, links := l } p b with ⟨l', eq⟩ | ⟨profile, found, l', eq⟩
    · exact .kept (by rw [eq]; rfl)
    · exact .prof b profile standby found (by rw [eq]; rfl)
  | modeRun p standby =>
    have same := s.inForce_acceptFrame p
    have checked := (s.acceptFrame p).runChecked_cases p
    obtain ⟨r, l, eq⟩ := accepted p
    rw [same] at checked
    rw [eq] at checked ⊢
    rcases checked with ⟨_, l', eq⟩ | ⟨passed, l', eq⟩
    · generalize s.inForce.crossCheck = result at eq
      exact .checked result standby (by rw [eq]; rfl)
    · exact .started { s with checkResult := .passed, records := r, links := l' } standby passed rfl eq
  | modeStandby p running => exact .stopped _ running (by simp) rfl
  | counters p =>
    obtain ⟨r, l, eq⟩ := accepted p
    rw [eq]
    exact .counters rfl
  | alarms p channel =>
    obtain ⟨r, l, eq⟩ := accepted p
    rw [eq]
    obtain ⟨ch, l', each, eq⟩ := State.takeClearAlarms_eq { s with records := r, links := l } p channel
    exact .alarms ch each (by rw [eq]; rfl)
  | notices p => exact .kept (by simp [State.takeClearNotices])

end Sys2Proof.Machine
end

section
/-! The timers, the scan, the image read, the list and the records follow the mode, and the sweep stays in order (O53). -/

namespace Sys2Proof.Machine

/-! ### When the laws carry over -/

theorem Mode.not_idle_of_running {m : Mode} (h : m.running = true) : ¬m.idle := by
  rintro (rfl | rfl) <;> cases h

/-- In a running mode the law is that both timers run and no image is read. -/
theorem State.FollowsMode.of_running {t : State} (mode : t.mode.running = true) (frame : t.frameTimer ≠ .stopped)
    (scan : t.scanTimer ≠ .stopped) (idle : t.readProgress ≠ .reading) : t.FollowsMode where
  frameTimer := iff_of_true frame mode
  scanTimer := iff_of_true scan mode
  scan _ := mode
  reading := iff_of_false idle fun h => by rw [h] at mode; cases mode
  list h := absurd h (Mode.not_idle_of_running mode)
  absent h := absurd h (Mode.not_idle_of_running mode)

/-- A part that runs on, its timers and its Configuration Reader as they were. -/
theorem State.FollowsMode.stays {s t : State} (h : s.FollowsMode) (was : s.mode.running = true) (mode : t.mode.running = true)
    (frame : t.frameTimer = s.frameTimer) (scan : t.scanTimer = s.scanTimer) (read : t.readProgress = s.readProgress) :
    t.FollowsMode := by
  refine .of_running mode (frame ▸ h.frameTimer.2 was) (scan ▸ h.scanTimer.2 was) ?_
  rw [read, Ne, h.reading]
  rintro loading
  rw [loading] at was
  cases was

/-- The mode and what follows it as they were, and no record of an idle part put into a standing. -/
theorem State.FollowsMode.congr {s t : State} (h : s.FollowsMode) (mode : t.mode = s.mode) (frame : t.frameTimer = s.frameTimer)
    (scanTimer : t.scanTimer = s.scanTimer) (scan : t.scan = s.scan) (read : t.readProgress = s.readProgress)
    (entries : s.entries = [] → t.entries = [])
    (absent : s.mode.idle → ∀ p, (s.record p).participation = .absent → (t.record p).participation = .absent) : t.FollowsMode where
  frameTimer := by rw [frame, mode]; exact h.frameTimer
  scanTimer := by rw [scanTimer, mode]; exact h.scanTimer
  scan := by rw [scan, mode]; exact h.scan
  reading := by rw [read, mode]; exact h.reading
  list idle := entries (h.list (mode ▸ idle))
  absent idle p := absent (mode ▸ idle) p (h.absent (mode ▸ idle) p)

theorem State.FollowsMode.of_frame {s t : State} (h : s.FollowsMode) (frame : t.frame = s.frame)
    (absent : s.mode.idle → ∀ p, (s.record p).participation = .absent → (t.record p).participation = .absent) : t.FollowsMode :=
  h.congr (State.mode_of_frame frame) (State.frameTimer_of_frame frame) (State.scanTimer_of_frame frame) (State.scan_of_frame frame)
    (State.readProgress_of_frame frame) (fun e => (State.entries_of_frame frame).trans e) absent

/-- What writes only links keeps the law. -/
theorem State.FollowsMode.of_links {s t : State} {l : Vector LinkPort 12} (h : s.FollowsMode) (eq : t = { s with links := l }) :
    t.FollowsMode := by
  subst eq
  exact h.congr rfl rfl rfl rfl rfl id fun _ _ a => a

/-- While the part runs, what writes only records and links keeps the law. -/
theorem State.FollowsMode.of_frame_of_running {s t : State} (h : s.FollowsMode) (running : s.mode.running = true)
    (frame : t.frame = s.frame) : t.FollowsMode :=
  h.of_frame frame fun idle => absurd idle (Mode.not_idle_of_running running)

theorem State.SweepInOrder.congr {s t : State} (h : s.SweepInOrder) (order : t.sweepOrder = s.sweepOrder)
    (lfsr : t.sweepLfsr = s.sweepLfsr) : t.SweepInOrder where
  order := order ▸ h.order
  lfsr := lfsr ▸ h.lfsr

theorem State.SweepInOrder.of_frame {s t : State} (h : s.SweepInOrder) (frame : t.frame = s.frame) : t.SweepInOrder :=
  h.congr (State.sweepOrder_of_frame frame) (State.sweepLfsr_of_frame frame)

/-! ### The sweep -/

theorem sweepOrderOf_perm (mode : SweepMode) (start : Port) : (sweepOrderOf mode start).Perm (List.finRange 12) :=
  (List.perm_ext_iff_of_nodup (sweepOrderOf_nodup mode start) (List.nodup_finRange 12)).2 fun p =>
    iff_of_true (mem_sweepOrderOf mode start p) (List.mem_finRange p)

theorem seededLfsr_ne_zero (seed : BitVec 16) : seededLfsr seed ≠ 0 := by
  unfold seededLfsr
  split
  · decide
  · assumption

theorem lfsrStep_eq (r : BitVec 16) : lfsrStep r = (r >>> 1) ^^^ (if r.getLsbD 0 then 0xB400#16 else 0#16) := by
  unfold lfsrStep
  split <;> simp

/-- A register that is not 0 keeps a 1: the one shifted out comes back at the top, and any other is moved down (R94). -/
theorem lfsrStep_ne_zero {r : BitVec 16} (h : r ≠ 0) : lfsrStep r ≠ 0 := by
  intro zero
  rw [lfsrStep_eq] at zero
  have bit (i : Nat) : ((r >>> 1) ^^^ (if r.getLsbD 0 then 0xB400#16 else 0#16)).getLsbD i = false := by rw [zero]; simp
  have out : r.getLsbD 0 = false := by
    cases low : r.getLsbD 0
    · rfl
    · have top := bit 15
      rw [low, if_pos rfl, BitVec.getLsbD_xor, BitVec.getLsbD_ushiftRight, BitVec.getLsbD_of_ge r (1 + 15) (by decide)] at top
      cases top
  apply h
  ext i hi
  rw [← BitVec.getLsbD_eq_getElem]
  cases i with
  | zero => simpa using out
  | succ i =>
    have moved := bit i
    rw [out] at moved
    simpa [Nat.add_comm] using moved

/-! ### Records at the events -/

theorem State.record_foldl_releasePort (ps : List Port) (s : State) (q : Port) : (ps.foldl State.releasePort s).record q = s.record q := by
  induction ps generalizing s with
  | nil => rfl
  | cons p ps ih =>
    rw [List.foldl_cons, ih]
    unfold State.releasePort
    split <;> simp

/-- STANDBY entry leaves every record as a LEAVE does (R127). -/
@[simp] theorem State.record_enterStandby (s : State) (p : Port) : s.enterStandby.record p = (s.record p).left (s.config p) := by
  have released : ((List.finRange 12).foldl State.releasePort s).record p = s.record p := State.record_foldl_releasePort _ s p
  rw [State.enterStandby]
  generalize (List.finRange 12).foldl State.releasePort s = u at released
  rw [State.changeMode_record, ← released]
  split
  · exact State.record_mapRecords _ _ p
  · rw [State.listChange_record]
    exact State.record_mapRecords _ _ p

/-- A port that falls silent was not ABSENT. -/
theorem State.absent_silencePort {s : State} {p q : Port} (h : (s.record q).participation = .absent) :
    ((s.silencePort p).record q).participation = .absent := by
  unfold State.silencePort
  split
  case isFalse => exact h
  case isTrue can =>
    have other : q ≠ p := by
      rintro rfl
      simp [PortRecord.canFallSilent, h] at can
    simpa [other] using h

theorem State.record_unbindTimes (p : Port) (n : Nat) (s : State) (q : Port) : (State.unbindTimes p n s).record q = s.record q := by
  induction n generalizing s with
  | zero => rfl
  | succ n ih =>
    unfold State.unbindTimes
    split
    · rfl
    · rw [ih, State.listChange_record]; rfl

theorem State.absent_rejectFrame {s : State} {p q : Port} (h : (s.record q).participation = .absent) :
    ((s.rejectFrame p).record q).participation = .absent := by
  have silent : ((((s.setLink p (s.link p).reject).setLink p ((s.setLink p (s.link p).reject).link p).down).silencePort p).record q).participation =
      .absent := State.absent_silencePort (by simpa using h)
  unfold State.rejectFrame State.loseLink
  simp only
  split
  · split
    · rw [State.unbind, State.record_unbindTimes]; exact silent
    · exact silent
  · simpa using h

/-- An accepted frame puts no record into a standing. -/
theorem State.absent_acceptFrame {s : State} {p q : Port} (h : (s.record q).participation = .absent) :
    ((s.acceptFrame p).record q).participation = .absent := by
  rw [State.record_acceptFrame]
  split
  case isTrue eq => rw [← eq]; exact h
  case isFalse => exact h

theorem State.FollowsMode.acceptFrame {s : State} (h : s.FollowsMode) (p : Port) : (s.acceptFrame p).FollowsMode :=
  h.of_frame (State.frame_acceptFrame s p) fun _ _ => State.absent_acceptFrame

theorem State.FollowsMode.enqueue {s : State} (h : s.FollowsMode) (p : Port) (m : Message) : (s.enqueue p m).FollowsMode :=
  h.of_frame (State.frame_enqueue s p m) fun _ q a => by simpa using a

/-! ### Modes entered -/

theorem State.enterPriming_followsMode {s : State} (idle : s.readProgress ≠ .reading) : s.enterPriming.FollowsMode := by
  obtain ⟨r, l, eq⟩ := s.enterPriming_eq
  rw [eq]
  exact .of_running rfl (by simp) (by simp) idle

theorem State.enterStandby_followsMode {s : State} (idle : s.readProgress ≠ .reading) : s.enterStandby.FollowsMode := by
  have absent (p : Port) : (s.enterStandby.record p).participation = .absent := by rw [State.record_enterStandby]; rfl
  obtain ⟨r, l, eq⟩ := s.enterStandby_eq
  constructor
  case absent => exact fun _ => absent
  all_goals simp [eq, Mode.running, idle]

theorem State.endLoading_followsMode (s : State) (memory : List Byte) : (s.endLoading memory).FollowsMode := by
  unfold State.endLoading
  simp only
  split
  · exact State.enterPriming_followsMode (by simp [State.bringIntoForce, State.mapChannels, State.mapRecords])
  · exact State.enterStandby_followsMode (by simp)

/-! ### Every effect -/

theorem State.workFrame_followsMode {s : State} (h : s.FollowsMode) (running : s.mode.running = true) : s.workFrame.FollowsMode := by
  unfold State.workFrame
  split
  · cases primed : s.primed s.primingCount with
    | none =>
      obtain ⟨r, l, eq⟩ := State.primeFrame_eq_of_none primed
      rw [eq]; exact h.stays running running rfl rfl rfl
    | some power =>
      obtain ⟨r, l, eq⟩ := State.primeFrame_eq_of_some primed
      rw [eq]; exact h.stays running rfl rfl rfl rfl
  · obtain ⟨_, _, _, _, _, _, _, _, eq⟩ := s.divided_eq
    rw [State.governFrame_eq]
    refine State.FollowsMode.of_frame_of_running (s := s.divided) ?_ (by rw [eq]; exact running) (State.frame_emitFrame _)
    rw [eq]; exact h.stays running running rfl rfl rfl
  · obtain ⟨_, _, _, _, _, _, _, eq⟩ := s.holdFrame_eq
    rw [eq]; exact h.stays running running rfl rfl rfl
  · exact h
  · exact h

theorem State.prepareFrame_followsMode {s : State} (h : s.FollowsMode) (running : s.mode.running = true) :
    s.prepareFrame.FollowsMode := by
  obtain ⟨_, _, _, _, _, eq⟩ := s.prepareFrame_eq
  rw [eq]; exact h.stays running running rfl rfl rfl

theorem State.scanOn_followsMode {s : State} (h : s.FollowsMode) (running : s.mode.running = true) (i : ChannelIndex) :
    (s.scanOn i).FollowsMode := by
  obtain ⟨_, _, eq⟩ := State.visit_eq (channelsAfter i) s
  rw [State.scanOn, eq]; exact h.stays running running rfl rfl rfl

theorem State.frameDue_running {s : State} (due : s.frameDue = true) : s.mode.running = true := by
  simp only [State.frameDue, Bool.and_eq_true] at due; exact due.2

theorem State.scanDue_running {s : State} (due : s.scanDue = true) : s.mode.running = true := by
  simp only [State.scanDue, Bool.and_eq_true] at due; exact due.2

theorem State.FollowsMode.running_of_scan {s : State} (h : s.FollowsMode) {scan : Scan} (awaited : s.scan = some scan) :
    s.mode.running = true := h.scan (by rw [awaited]; rfl)

/-- Every effect keeps the timers, the scan, the list and the records in keeping with the mode. -/
theorem State.Effect.followsMode {s w : State} (e : s.Effect w) (h : s.FollowsMode) : w.FollowsMode := by
  cases e with
  | loaded memory => exact State.endLoading_followsMode s memory
  | frame due =>
    have running := State.frameDue_running due
    exact State.workFrame_followsMode (State.prepareFrame_followsMode h running) (by rwa [State.mode_prepareFrame])
  | scanned due =>
    have running := State.scanDue_running due
    obtain ⟨_, _, eq⟩ := State.visit_eq (List.finRange 16) s
    rw [eq]; exact h.stays running running rfl rfl rfl
  | sampled scan v awaited =>
    have running := h.running_of_scan awaited
    obtain ⟨m, l, mode, eq⟩ := s.sampleChannel_eq scan.channel v
    have runs_on : m.running = true := by
      rcases mode with rfl | ⟨_, rfl, _⟩
      exacts [running, rfl]
    rw [eq]
    refine State.scanOn_followsMode ?_ runs_on _
    exact h.stays running runs_on rfl rfl rfl
  | missed scan awaited =>
    have running := h.running_of_scan awaited
    obtain ⟨l, ⟨eq, _⟩ | ⟨_, _, eq⟩⟩ := s.missChannel_eq scan.channel
    · rw [eq]
      refine State.scanOn_followsMode (s := { s with channels := _, links := l }) ?_ running _
      exact h.stays running running rfl rfl rfl
    · rw [eq]
      refine State.scanOn_followsMode ?_ rfl _
      exact h.stays running rfl rfl rfl rfl
  | sent p m => exact h.of_frame (State.frame_setLink _ _ _) fun _ q a => by simpa using a
  | rejected p =>
    obtain ⟨es, r, l, sub, eq⟩ := s.rejectFrame_eq p
    refine h.congr ?_ ?_ ?_ ?_ ?_ ?_ fun _ q => State.absent_rejectFrame
    case refine_6 => rw [eq]; exact fun empty => List.eq_nil_of_sublist_nil (empty ▸ sub)
    all_goals rw [eq]
  | replied p m => exact (h.acceptFrame p).enqueue p m
  | restart p =>
    exact ((h.acceptFrame p).enqueue p (.ack 0x29#8 false true)).congr rfl rfl rfl rfl rfl id fun _ _ a => a
  | joined p running => exact (h.acceptFrame p).of_frame_of_running (by simpa using running) (State.frame_takeJoin _ p)
  | clusterReport p _ _ _ running =>
    exact (h.acceptFrame p).of_frame_of_running (by simpa using running) (State.frame_takeClusterReport _ p _ _ _)
  | storageReport p _ _ _ _ _ running =>
    exact (h.acceptFrame p).of_frame_of_running (by simpa using running) (State.frame_takeStorageReport _ p _ _ _ _ _)
  | yielded p _ running => exact (h.acceptFrame p).of_frame_of_running (by simpa using running) (State.frame_takeYield _ p _)
  | left p running => exact (h.acceptFrame p).of_frame_of_running (by simpa using running) (State.frame_takeLeave _ p)
  | pushed p b delay expiry running =>
    have ha := h.acceptFrame p
    have running' : (s.acceptFrame p).mode.running = true := by simpa using running
    rcases (s.acceptFrame p).takePush_cases p b delay expiry with ⟨l, eq⟩ | ⟨_, l, eq⟩
    all_goals rw [eq]; exact ha.stays running' running' rfl rfl rfl
  | dropped p =>
    have ha := h.acceptFrame p
    rcases (s.acceptFrame p).takeDrop_cases p with ⟨l, eq⟩ | ⟨rest, found, l, eq⟩
    · rw [eq]; exact ha.of_links rfl
    · rw [eq]
      refine ha.congr rfl rfl rfl rfl rfl (fun empty => ?_) fun _ _ a => a
      rw [empty] at found
      cases found
  | site p f =>
    have ha := h.acceptFrame p
    rcases (s.acceptFrame p).takeSetSite_cases p f with ⟨l, eq⟩ | ⟨site, _, l, eq⟩
    all_goals rw [eq]; exact ha.congr rfl rfl rfl rfl rfl id fun _ _ a => a
  | port p f =>
    have ha := h.acceptFrame p
    rcases (s.acceptFrame p).takeSetPort_cases p f with ⟨l, eq⟩ | ⟨target, c, _, l, eq⟩
    · rw [eq]; exact ha.of_links rfl
    · rw [eq]
      refine ha.congr rfl rfl rfl rfl rfl id fun _ q a => ?_
      have written := State.record_setRecord (s.acceptFrame p) target q { (s.acceptFrame p).record target with committed := c.rest }
      refine (congrArg PortRecord.participation written).trans ?_
      split
      case isTrue same => rw [← same]; exact a
      case isFalse => exact a
  | chan p f =>
    have ha := h.acceptFrame p
    rcases (s.acceptFrame p).takeSetChan_cases p f with ⟨l, eq⟩ | ⟨i, c, _, l, eq⟩
    all_goals rw [eq]; exact ha.congr rfl rfl rfl rfl rfl id fun _ _ a => a
  | prof p b =>
    have ha := h.acceptFrame p
    rcases (s.acceptFrame p).takeSetProf_cases p b with ⟨l, eq⟩ | ⟨profile, _, l, eq⟩
    all_goals rw [eq]; exact ha.congr rfl rfl rfl rfl rfl id fun _ _ a => a
  | modeRun p standby =>
    have ha := h.acceptFrame p
    have idle : (s.acceptFrame p).readProgress ≠ .reading := by simp [h.reading, standby]
    rcases (s.acceptFrame p).runChecked_cases p with ⟨_, l, eq⟩ | ⟨_, l, eq⟩
    · generalize (s.acceptFrame p).inForce.crossCheck = result at eq
      rw [eq]; exact ha.congr rfl rfl rfl rfl rfl id fun _ _ a => a
    · rw [eq]
      refine State.enterPriming_followsMode ?_
      exact idle
  | modeStandby p running =>
    refine State.enterStandby_followsMode ?_
    rw [State.ack_readProgress, State.acceptFrame_readProgress, Ne, h.reading]
    intro loading
    rw [loading] at running; cases running
  | counters p =>
    have ha := h.acceptFrame p
    refine State.FollowsMode.enqueue ?_ p _
    obtain ⟨l, eq⟩ := (s.acceptFrame p).zeroCounters_eq
    rw [eq]
    refine ha.congr rfl rfl rfl rfl rfl id fun _ q a => ?_
    have written := State.record_mapRecords (s.acceptFrame p) (fun _ r => { r with yieldsRefused := 0, recallTimeouts := 0 }) q
    exact (congrArg PortRecord.participation written).trans a
  | alarms p channel =>
    have ha := h.acceptFrame p
    obtain ⟨ch, l, _, eq⟩ := (s.acceptFrame p).takeClearAlarms_eq p channel
    rw [eq]; exact ha.congr rfl rfl rfl rfl rfl id fun _ _ a => a
  | notices p =>
    exact (h.acceptFrame p).of_frame (by simp [State.takeClearNotices]) fun _ q a => by simpa [State.takeClearNotices] using a

theorem State.sweepInOrder_enterPriming (s : State) : s.enterPriming.SweepInOrder := by
  obtain ⟨r, l, eq⟩ := s.enterPriming_eq
  rw [eq]
  exact ⟨sweepOrderOf_perm _ _, seededLfsr_ne_zero _⟩

theorem State.SweepInOrder.enterStandby {s : State} (h : s.SweepInOrder) : s.enterStandby.SweepInOrder := by
  obtain ⟨r, l, eq⟩ := s.enterStandby_eq
  rw [eq]; exact h.congr rfl rfl

theorem State.SweepInOrder.advanceSweep_lfsr {s : State} (h : s.SweepInOrder) : s.advanceSweep.sweepLfsr ≠ 0 := by
  unfold State.advanceSweep
  simp only
  split
  exacts [lfsrStep_ne_zero h.lfsr, h.lfsr]

theorem State.SweepInOrder.workFrame {s : State} (h : s.SweepInOrder) : s.workFrame.SweepInOrder := by
  unfold State.workFrame
  split
  · cases primed : s.primed s.primingCount with
    | none =>
      obtain ⟨r, l, eq⟩ := State.primeFrame_eq_of_none primed
      rw [eq]; exact h.congr rfl rfl
    | some power =>
      obtain ⟨r, l, eq⟩ := State.primeFrame_eq_of_some primed
      rw [eq]; exact h.congr rfl rfl
  · obtain ⟨_, _, _, _, _, _, _, _, eq⟩ := s.divided_eq
    rw [State.governFrame_eq]
    refine State.SweepInOrder.of_frame ?_ (State.frame_emitFrame _)
    rw [eq]
    exact ⟨sweepOrderOf_perm _ _, h.advanceSweep_lfsr⟩
  · obtain ⟨_, _, _, _, _, _, _, eq⟩ := s.holdFrame_eq
    rw [eq]; exact h.congr rfl rfl
  · exact h
  · exact h

/-- Every effect keeps the sweep order naming each port once and the LFSR off 0. -/
theorem State.Effect.sweepInOrder {s w : State} (e : s.Effect w) (h : s.SweepInOrder) : w.SweepInOrder := by
  cases e.shape with
  | loaded memory _ eq =>
    subst eq
    unfold State.endLoading
    simp only
    split
    · exact State.sweepInOrder_enterPriming _
    · refine State.SweepInOrder.enterStandby ?_
      exact h.congr rfl rfl
  | expired _ eq =>
    obtain ⟨_, _, _, _, _, prepared⟩ := s.prepareFrame_eq
    rw [eq]
    refine State.SweepInOrder.workFrame ?_
    rw [prepared]; exact h.congr rfl rfl
  | scanned _ _ eq =>
    obtain ⟨_, _, visited⟩ := State.visit_eq (List.finRange 16) s
    rw [eq, visited]; exact h.congr rfl rfl
  | sampled scan v _ eq =>
    obtain ⟨_, _, _, sampled⟩ := s.sampleChannel_eq scan.channel v
    obtain ⟨_, _, visited⟩ := State.visit_eq (channelsAfter scan.channel) (s.sampleChannel scan.channel v)
    rw [eq, State.scanOn, visited, sampled]; exact h.congr rfl rfl
  | missed scan _ eq =>
    obtain ⟨_, _, visited⟩ := State.visit_eq (channelsAfter scan.channel) (s.missChannel scan.channel)
    obtain ⟨_, ⟨missed, _⟩ | ⟨_, _, missed⟩⟩ := s.missChannel_eq scan.channel
    all_goals rw [eq, State.scanOn, visited, missed]; exact h.congr rfl rfl
  | started t _ _ _ eq => rw [eq]; exact State.sweepInOrder_enterPriming t
  | stopped t _ frame eq => rw [eq]; exact (h.of_frame frame).enterStandby
  | kept frame => exact h.of_frame frame
  | _ => refine State.SweepInOrder.of_frame ?_ ‹_›; exact h.congr rfl rfl

end Sys2Proof.Machine
end

section
/-! Commands and the queue (O1, O2), the end of an event (O3), the start values (O4, O5), and the law of the mode and the sweep (O53). -/

namespace Sys2Proof.Machine

/-! ### The start values -/

@[simp] theorem State.record_reset (p : Port) : State.reset.record p = .start := by simp [State.record, State.reset]
@[simp] theorem State.link_reset (p : Port) : State.reset.link p = .start := by simp [State.link, State.reset]
@[simp] theorem State.channel_reset (c : ChannelIndex) : State.reset.channel c = .start := by simp [State.channel, State.reset]
@[simp] theorem State.config_reset (p : Port) : State.reset.config p = .start := by simp [State.config, State.reset]

/-- A restart puts every block at its start values (R133). -/
theorem State.atStart_restarted (s : State) (cause : RestartCause) : (s.restarted cause).AtStart where
  mode := rfl
  check := rfl
  noRestart := rfl
  holding := rfl
  reading := rfl
  site := rfl
  table := State.config_reset
  timers := ⟨rfl, rfl, rfl⟩
  governor := ⟨rfl, rfl, rfl, rfl, rfl⟩
  plantCounters := ⟨rfl, rfl, rfl⟩
  history := ⟨rfl, rfl, rfl, rfl, rfl⟩
  profile := rfl
  list := rfl
  channels := State.channel_reset
  sweep := ⟨rfl, rfl, rfl⟩
  records := State.record_reset
  links := State.link_reset

theorem Channel.start_inOrder : Channel.start.InOrder := by
  constructor <;> simp [Channel.start, ChannelConfig.start]

section AtStart
variable {s : State} (h : s.AtStart)
include h

theorem State.AtStart.record_eq (p : Port) : s.record p = .start := h.records p
theorem State.AtStart.channel_eq (c : ChannelIndex) : s.channel c = .start := h.channels c
theorem State.AtStart.link_eq (p : Port) : s.link p = .start := h.links p
theorem State.AtStart.config_eq (p : Port) : s.config p = .start := h.table p

theorem State.AtStart.idle : s.mode.idle := .inl h.mode

theorem State.AtStart.not_running : s.mode.running ≠ true := by rw [h.mode]; simp [Mode.running]

theorem State.AtStart.followsMode : s.FollowsMode := by
  obtain ⟨frame, scan, none⟩ := h.timers
  have mode := h.mode
  constructor
  case absent => exact fun _ p => by rw [h.record_eq]; rfl
  all_goals simp [frame, scan, none, mode, h.reading, h.list, Mode.running]

theorem State.AtStart.sweepInOrder : s.SweepInOrder := by
  obtain ⟨_, lfsr, order⟩ := h.sweep
  exact ⟨by rw [order]; exact List.Perm.refl _, by rw [lfsr]; decide⟩

theorem State.AtStart.linksDisciplined : s.LinksDisciplined := by
  intro p
  rw [h.link_eq]
  constructor <;> simp [LinkPort.start]

theorem State.AtStart.ringInOrder : s.RingInOrder := by
  obtain ⟨ring, _, since, _, _⟩ := h.history
  constructor <;> simp [ring, since, h.mode]

theorem State.AtStart.tableInRange : s.TableInRange := by
  intro p
  rw [h.config_eq]
  simp [PortConfig.start]

theorem State.AtStart.commitmentsKept : s.CommitmentsKept where
  table := h.tableInRange
  resting _ p := by simp [h.record_eq, h.config_eq, PortRecord.start, PortConfig.start, PortConfig.rest]
  withinLimit running := absurd running h.not_running
  recallBelow p r found := by simp [h.record_eq, PortRecord.start] at found
  lastSent p v present := by simp [h.record_eq, PortRecord.start] at present
  recalling p := by simp [h.record_eq, PortRecord.start]
  absent p _ := by simp [h.record_eq, PortRecord.start]

theorem State.AtStart.channelsInOrder : s.ChannelsInOrder where
  channels c := by rw [h.channel_eq]; exact Channel.start_inOrder
  reading scan found := by rw [h.timers.2.2] at found; cases found
  meter running := absurd running h.not_running
  governing mode := by rw [h.mode] at mode; cases mode
  holding mode := by rw [h.mode] at mode; cases mode

theorem State.AtStart.listInOrder : s.ListInOrder := by
  constructor <;> simp [h.list, h.profile, Profile.inRange, inRange, powerLimit]

theorem State.AtStart.figuresKept : s.FiguresKept where
  table := h.tableInRange
  limit := by simp [h.site]
  clusters p := by simp [h.record_eq, PortRecord.start]
  discharges p := by simp [h.record_eq, PortRecord.start]
  stale p := by simp [h.config_eq, PortConfig.start]
  ratios c := by simp [h.channel_eq, Channel.start]
  reference running := absurd running h.not_running

theorem State.AtStart.ratingsKept : s.RatingsKept where
  table := h.tableInRange
  ratios c := by simp [h.channel_eq, Channel.start]
  fallbacks running := absurd running h.not_running
  steered running := absurd running h.not_running
  absent running := absurd running h.not_running

end AtStart

/-- Settles O4: the reset state is a restart's, and each law follows from the start values. -/
theorem resetStateIsInOrder : Obligations.ResetStateIsInOrder := by
  have start : State.reset.AtStart := State.atStart_restarted State.reset .power
  exact ⟨start, rfl, rfl, start.followsMode, start.sweepInOrder, start.linksDisciplined, start.ringInOrder, start.commitmentsKept,
    start.channelsInOrder, start.listInOrder, start.figuresKept, start.ratingsKept⟩

/-! ### Commands and the queue -/

/-- Settles O1, by the two cases of the queue. -/
theorem stepTakesTheFrontCommand : Obligations.StepTakesTheFrontCommand := by
  refine ⟨fun c rest s => rfl, fun s empty => ?_⟩
  rw [step, empty]

theorem State.pending_workFrame (s : State) : s.workFrame.pending = s.pending := by
  unfold State.workFrame
  split
  · cases primed : s.primed s.primingCount with
    | none =>
      obtain ⟨r, l, eq⟩ := State.primeFrame_eq_of_none primed
      rw [eq]
    | some power =>
      obtain ⟨r, l, eq⟩ := State.primeFrame_eq_of_some primed
      rw [eq]
  · obtain ⟨_, _, _, _, _, _, _, _, eq⟩ := s.divided_eq
    rw [State.governFrame_eq, State.pending_of_frame (State.frame_emitFrame _), eq]
  · obtain ⟨_, _, _, _, _, _, _, eq⟩ := s.holdFrame_eq
    rw [eq]
  · rfl
  · rfl

theorem State.pending_enterPriming (s : State) : s.enterPriming.pending = s.pending := by
  obtain ⟨_, _, eq⟩ := s.enterPriming_eq; rw [eq]

theorem State.pending_enterStandby (s : State) : s.enterStandby.pending = s.pending := by
  obtain ⟨_, _, eq⟩ := s.enterStandby_eq; rw [eq]

/-- No effect touches the queue of commands. -/
theorem State.Effect.pending_eq {s w : State} (e : s.Effect w) : w.pending = s.pending := by
  cases e.shape with
  | loaded memory _ eq =>
    subst eq
    unfold State.endLoading
    simp only
    split
    · exact State.pending_enterPriming _
    · exact State.pending_enterStandby _
  | expired _ eq =>
    obtain ⟨_, _, _, _, _, prepared⟩ := s.prepareFrame_eq
    rw [eq, State.pending_workFrame, prepared]
  | scanned _ _ eq =>
    obtain ⟨_, _, visited⟩ := State.visit_eq (List.finRange 16) s
    rw [eq, visited]
  | sampled scan v _ eq =>
    obtain ⟨_, _, _, sampled⟩ := s.sampleChannel_eq scan.channel v
    obtain ⟨_, _, visited⟩ := State.visit_eq (channelsAfter scan.channel) (s.sampleChannel scan.channel v)
    rw [eq, State.scanOn, visited, sampled]
  | missed scan _ eq =>
    obtain ⟨_, _, visited⟩ := State.visit_eq (channelsAfter scan.channel) (s.missChannel scan.channel)
    obtain ⟨_, ⟨missed, _⟩ | ⟨_, _, missed⟩⟩ := s.missChannel_eq scan.channel
    all_goals rw [eq, State.scanOn, visited, missed]
  | started t _ _ frame eq => rw [eq, State.pending_enterPriming]; exact (State.pending_of_frame frame :)
  | stopped t _ frame eq => rw [eq, State.pending_enterStandby]; exact State.pending_of_frame frame
  | kept frame => exact State.pending_of_frame frame
  | _ =>
    rename_i frame
    exact (State.pending_of_frame frame :)

/-- Settles O2: what a command answers is one of four things, and none of them is another queue. -/
theorem everyCommandCompletes : Obligations.EveryCommandCompletes := by
  intro c s
  obtain ⟨t, answers, answered⟩ := exec_answered c s
  refine ⟨t, answers, ?_⟩
  cases answered with
  | unchanged => rfl
  | restarted cause => rfl
  | moved p r => exact State.setLink_pending s p _
  | settled effect => rw [State.settle_pending, effect.pending_eq]

/-! ### The end of an event -/

/-- Where the ACK of a pending restart still waits or is being sent, the end of an event only lets idle transmitters send (R144, R153). -/
theorem State.settle_of_waiting {s : State}
    (waits : ∀ p, s.restartPending = some p → (s.link p).startSending.holdsRestartAck = true) :
    s.settle = s.mapLinks fun _ l => l.startSending := by
  have none_due : (s.mapLinks fun _ l => l.startSending).restartDue = none := by
    simp only [State.restartDue, State.mapLinks_restartPending, State.link_mapLinks]
    split
    case h_1 p pending => simp [waits p pending]
    case h_2 => rfl
  rw [State.settle, State.takeRestart, none_due]

/-- Where that ACK has left or been removed, the restart is taken at the end of the event (R144). -/
theorem State.settle_of_gone {s : State} {p : Port} (pending : s.restartPending = some p)
    (gone : (s.link p).startSending.holdsRestartAck = false) :
    s.settle = (s.mapLinks fun _ l => l.startSending).restarted (.command p) := by
  have due : (s.mapLinks fun _ l => l.startSending).restartDue = some p := by
    simp [State.restartDue, pending, gone]
  rw [State.settle, State.takeRestart, due]

/-- Settles O3, by whether a pending restart still waits on its ACK. -/
theorem eventsEndByTransmittingOrRestarting : Obligations.EventsEndByTransmittingOrRestarting := by
  refine fun s => ⟨fun waits => ?waiting, fun p pending gone => ?gone⟩
  case waiting =>
    rw [State.settle_of_waiting waits]
    exact ⟨rfl, fun q => State.link_mapLinks s _ q⟩
  case gone =>
    rw [State.settle_of_gone pending gone]
    exact ⟨State.atStart_restarted _ _, rfl, rfl⟩

/-! ### Power, reset and restart -/

theorem State.receive_restart {s : State} {p : Port} (loaded : s.mode ≠ .loading) (stands : s.Supervises p) :
    exec (.restart p) s = .next ((s.acceptFrame p).takeRestartRequest p).settle := by
  rw [exec_of_request (r := .restart) rfl, State.receive_supervised rfl loaded stands]
  rfl

/-- The ACK that restart pending waits on, and restart pending set (R144). -/
theorem State.answers_restart (s : State) (p : Port) :
    s.Answers { s with restartPending := some p }
      { (s.acceptFrame p).enqueue p (.ack 0x29#8 false true) with restartPending := some p } p [.ack 0x29#8 false true] [] := by
  have acked := (s.answers_acceptFrame p).enqueue (.ack 0x29#8 false true)
  refine acked.rebase ?_ rfl rfl rfl
  have rest := acked.rest
  generalize (s.acceptFrame p).enqueue p (.ack 0x29#8 false true) = w at rest ⊢
  rw [rest]

/-- Settles O5: power, the reset line and a taken RESTART leave the start values, and a RESTART is answered by the ACK it waits on. -/
theorem restartsTakeTheStartValues : Obligations.RestartsTakeTheStartValues := by
  refine ⟨fun s => ?power, fun s p loaded stands => ⟨fun none => ?first, fun some => ?again⟩, fun s => ⟨fun p pending gone => ?taken, fun waits => ?waits⟩⟩
  case power =>
    exact ⟨_, _, rfl, rfl, State.atStart_restarted s _, rfl, State.atStart_restarted s _, rfl⟩
  case first =>
    refine ⟨_, ?_, s.answers_restart p⟩
    rw [State.receive_restart loaded stands, State.takeRestartRequest, State.acceptFrame_restartPending, none]
  case again =>
    refine ⟨_, ?_, s.answers_ack p 0x29#8⟩
    rw [State.receive_restart loaded stands, State.takeRestartRequest, State.acceptFrame_restartPending]
    obtain ⟨q, pending⟩ := Option.ne_none_iff_exists'.1 some
    rw [pending]
  case taken =>
    refine ⟨s.restarted (.command p), ?_, State.atStart_restarted _ _, rfl, rfl⟩
    simp [exec, execRestartTaken, pending, gone]
  case waits =>
    rcases waits with none | ⟨p, pending, queued⟩
    · simp [exec, execRestartTaken, none]
    · simp [exec, execRestartTaken, pending, queued]

/-! ### The mode and the sweep -/

/-- Settles O53: each effect keeps both laws, and neither looks at the links or the queue. -/
theorem stepsKeepTheModeAndSweepInOrder : Obligations.StepsKeepTheModeAndSweepInOrder := by
  intro s t mode sweep stepped
  refine step_keeps (P := fun s => s.FollowsMode ∧ s.SweepInOrder) (Q := fun s => s.FollowsMode ∧ s.SweepInOrder) ?_ ?_ ?_ ?_ ?_
    ⟨mode, sweep⟩ stepped
  · exact fun s rest h => ⟨h.1.congr rfl rfl rfl rfl rfl id fun _ _ a => a, h.2.congr rfl rfl⟩
  · exact fun s cause => ⟨(State.atStart_restarted s cause).followsMode, (State.atStart_restarted s cause).sweepInOrder⟩
  · exact fun s p r h => ⟨h.1.of_links rfl, h.2.congr rfl rfl⟩
  · exact fun s w h e => ⟨e.followsMode h.1, e.sweepInOrder h.2⟩
  · exact fun w h => ⟨h.1.of_links rfl, h.2.congr rfl rfl⟩

end Sys2Proof.Machine
end

section
/-! The History Ring stays consecutive and within 600 records (O55), and the Profile List in range (O58). -/

namespace Sys2Proof.Machine

/-! ### The ring at an append -/

theorem markCompliance_take (r : FrameRecord) (ring : List FrameRecord) : ∃ m,
    markCompliance ((r :: ring).take Config.ringCapacity) = ({ r with marks := m } :: ring).take Config.ringCapacity :=
  ⟨_, rfl⟩

/-- An append puts the record before the others, marked in some way, and drops the oldest of 600 (R28). -/
theorem State.ring_appendRecord (s : State) (profile : Profile) (r : FrameRecord) : ∃ m,
    (s.appendRecord profile r).ring = ({ r with marks := m } :: s.ring).take 600 := by
  have pushed : ∃ m, (s.pushRecord r).ring = ({ r with marks := m } :: s.ring).take Config.ringCapacity := by
    unfold State.pushRecord
    simp only
    split
    exacts [⟨_, rfl⟩, ⟨_, rfl⟩]
  obtain ⟨m, pushed⟩ := pushed
  unfold State.appendRecord State.checkCompliance
  split
  · exact ⟨m, pushed⟩
  · simp only
    split
    · exact ⟨m, pushed⟩
    · rw [pushed]
      obtain ⟨m', marked⟩ := markCompliance_take { r with marks := m } s.ring
      rw [marked]
      split
      exacts [⟨m', rfl⟩, ⟨m', rfl⟩]

theorem State.sinceBase_appendRecord (s : State) (profile : Profile) (r : FrameRecord) :
    (s.appendRecord profile r).sinceBase = countUp 600 s.sinceBase := by
  unfold State.appendRecord State.checkCompliance
  split
  · rfl
  · simp only
    split
    · rfl
    · split <;> rfl

/-- A list update restarts the window or leaves it (R31). -/
theorem State.sinceBase_updateList_le (s : State) : s.updateList.sinceBase ≤ s.sinceBase := by
  obtain ⟨l, eq⟩ := s.updateList_eq
  split at eq
  · rw [eq]; exact Nat.zero_le _
  · rw [eq]

theorem State.sinceBase_prepareFrame_le (s : State) : s.prepareFrame.sinceBase ≤ s.sinceBase := by
  have same : s.numberFrame.ageRecords.sinceBase = s.sinceBase := by
    obtain ⟨n, numbered⟩ := s.numberFrame_eq
    obtain ⟨o, l, aged⟩ := s.numberFrame.ageRecords_eq
    rw [aged, numbered]
  exact same ▸ State.sinceBase_updateList_le _

theorem State.frameNumber_numberFrame {s : State} (h : s.mode = .governing ∨ s.mode = .holding) :
    s.numberFrame.frameNumber = s.frameNumber + 1 := by
  rcases h with h | h <;> simp [State.numberFrame, h]

theorem State.frameNumber_numberFrame_priming {s : State} (h : s.mode = .priming) : s.numberFrame.frameNumber = s.frameNumber := by
  simp [State.numberFrame, h]

/-! ### The law of the ring -/

/-- The ring, its count and the frame number as they were, and no mode entered that claims more. -/
theorem State.RingInOrder.congr {s t : State} (h : s.RingInOrder) (ring : t.ring = s.ring) (since : t.sinceBase = s.sinceBase)
    (number : t.frameNumber = s.frameNumber) (priming : t.mode = .priming → s.mode = .priming)
    (newest : t.mode = .governing ∨ t.mode = .holding → s.mode = .governing ∨ s.mode = .holding) : t.RingInOrder where
  capacity := ring ▸ h.capacity
  consecutive := ring ▸ h.consecutive
  since := by rw [ring, since]; exact h.since
  priming m := by rw [ring, number]; exact h.priming (priming m)
  newest m := by rw [ring, number]; exact h.newest (newest m)

theorem State.RingInOrder.of_frame {s t : State} (h : s.RingInOrder) (frame : t.frame = s.frame) : t.RingInOrder := by
  have mode := State.mode_of_frame frame
  exact h.congr (State.ring_of_frame frame) (State.sinceBase_of_frame frame) (State.frameNumber_of_frame frame)
    (fun m => mode ▸ m) (fun m => mode ▸ m)

/-- An empty ring is in order, whatever the mode, at frame number 0. -/
theorem State.RingInOrder.of_empty {t : State} (ring : t.ring = []) (since : t.sinceBase = 0) (number : t.frameNumber = 0) :
    t.RingInOrder := by
  constructor <;> simp [ring, since, number]

/-- An idle part claims nothing of the newest record. -/
theorem State.RingInOrder.of_idle {s t : State} (h : s.RingInOrder) (ring : t.ring = s.ring) (since : t.sinceBase ≤ s.sinceBase)
    (idle : t.mode.idle) : t.RingInOrder where
  capacity := ring ▸ h.capacity
  consecutive := ring ▸ h.consecutive
  since := by rw [ring]; exact since.trans h.since
  priming m := by rcases idle with i | i <;> rw [i] at m <;> cases m
  newest m := by rcases idle with i | i <;> rw [i] at m <;> rcases m with m | m <;> cases m

/-- The record of the frame after the newest one's keeps the ring in order (R28, R29). -/
theorem State.RingInOrder.appended {s w : State} (h : s.RingInOrder) (was : s.mode = .governing ∨ s.mode = .holding)
    {r : FrameRecord} (number : r.number = s.frameNumber + 1) (ring : w.ring = (r :: s.ring).take 600)
    (since : w.sinceBase ≤ countUp 600 s.sinceBase) (mode : w.mode ≠ .priming) (frame : w.frameNumber = s.frameNumber + 1) :
    w.RingInOrder where
  capacity := by rw [ring]; exact List.length_take_le _ _
  consecutive := by
    rw [ring]
    refine List.IsChain.take ?_ 600
    cases held : s.ring with
    | nil => exact List.isChain_singleton _
    | cons newest older =>
      refine List.isChain_cons_cons.2 ⟨?_, held ▸ h.consecutive⟩
      rw [number, h.newest was newest (by rw [held]; rfl)]
  since := by
    have := h.since
    have := h.capacity
    rw [ring, List.length_take, List.length_cons]
    unfold countUp at since
    split at since <;> omega
  priming m := absurd m mode
  newest _ x head := by
    rw [ring] at head
    cases head
    rw [number, frame]

theorem State.ringInOrder_enterPriming (s : State) : s.enterPriming.RingInOrder := by
  obtain ⟨_, _, eq⟩ := s.enterPriming_eq
  rw [eq]
  exact .of_empty rfl rfl rfl

theorem State.RingInOrder.enterStandby {s : State} (h : s.RingInOrder) : s.enterStandby.RingInOrder := by
  obtain ⟨_, _, eq⟩ := s.enterStandby_eq
  rw [eq]
  exact h.congr rfl rfl rfl (fun m => by cases m) (fun m => by rcases m with m | m <;> cases m)

/-- A governing frame appends the record of its number (R21). -/
theorem State.ring_governFrame (s : State) : ∃ r : FrameRecord, r.number = s.frameNumber ∧ s.governFrame.ring = (r :: s.ring).take 600 ∧
    s.governFrame.sinceBase = countUp 600 s.sinceBase := by
  have emitted := s.divided.frame_emitFrame
  have divided : s.divided.frame = s.recorded.frame := State.frame_allocate _ _ _
  obtain ⟨_, _, _, _, figured⟩ := s.figured_eq
  obtain ⟨m, appended⟩ := s.figured.ring_appendRecord s.activeProfile (s.figured.frameRecord s.frameMarks)
  refine ⟨{ s.figured.frameRecord s.frameMarks with marks := m }, ?_, ?_, ?_⟩
  · rw [State.frameRecord, figured]
  · rw [State.governFrame_eq, State.ring_of_frame (emitted.trans divided), State.recorded, appended, State.frameRecord, figured]
  · rw [State.governFrame_eq, State.sinceBase_of_frame (emitted.trans divided), State.recorded, State.sinceBase_appendRecord, figured]

/-- A held frame appends the record of its number (R22). -/
theorem State.ring_holdFrame (s : State) : ∃ r : FrameRecord, r.number = s.frameNumber ∧ s.holdFrame.ring = (r :: s.ring).take 600 ∧
    s.holdFrame.sinceBase = countUp 600 s.sinceBase := by
  obtain ⟨m, appended⟩ := State.ring_appendRecord { s with target := s.targetPower s.activeProfile } s.activeProfile
    (State.frameRecord { s with target := s.targetPower s.activeProfile } { Marks.empty with hold := true })
  refine ⟨_, ?_, (State.ring_of_frame (State.frame_emitHeld _)).trans appended,
    (State.sinceBase_of_frame (State.frame_emitHeld _)).trans (State.sinceBase_appendRecord _ _ _)⟩
  rfl

theorem State.RingInOrder.expired {s : State} (h : s.RingInOrder) : s.prepareFrame.workFrame.RingInOrder := by
  have since := s.sinceBase_prepareFrame_le
  obtain ⟨o, b, n, q, l, eq⟩ := s.prepareFrame_eq
  have mode : s.prepareFrame.mode = s.mode := by rw [eq]
  have ring : s.prepareFrame.ring = s.ring := by rw [eq]
  have number : s.prepareFrame.frameNumber = s.numberFrame.frameNumber := by rw [eq]
  generalize s.prepareFrame = v at *
  have counted : countUp 600 v.sinceBase ≤ countUp 600 s.sinceBase := by unfold countUp; split <;> split <;> omega
  unfold State.workFrame
  split
  case h_1 priming =>
    obtain ⟨empty, zero⟩ := h.priming (mode ▸ priming)
    have none_since : v.sinceBase = 0 := by
      have := h.since
      rw [empty] at this
      exact Nat.le_zero.1 (since.trans this)
    rw [State.frameNumber_numberFrame_priming (mode ▸ priming), zero] at number
    cases primed : v.primed v.primingCount with
    | none =>
      obtain ⟨_, _, waits⟩ := State.primeFrame_eq_of_none primed
      rw [waits]; exact .of_empty (ring.trans empty) none_since number
    | some power =>
      obtain ⟨_, _, seeds⟩ := State.primeFrame_eq_of_some primed
      rw [seeds]; exact .of_empty (ring.trans empty) rfl number
  case h_2 governing =>
    have was : s.mode = .governing ∨ s.mode = .holding := .inl (mode ▸ governing)
    rw [State.frameNumber_numberFrame was] at number
    obtain ⟨r, numbered, appended, counts⟩ := v.ring_governFrame
    obtain ⟨_, _, _, _, _, _, _, _, divided⟩ := v.divided_eq
    have emitted := v.divided.frame_emitFrame
    refine h.appended was (numbered.trans number) (ring ▸ appended) (counts ▸ counted) ?_ ?_
    · rw [State.governFrame_eq, State.mode_of_frame emitted, divided, governing]; simp
    · rw [State.governFrame_eq, State.frameNumber_of_frame emitted, divided, number]
  case h_3 holding =>
    have was : s.mode = .governing ∨ s.mode = .holding := .inr (mode ▸ holding)
    rw [State.frameNumber_numberFrame was] at number
    obtain ⟨r, numbered, appended, counts⟩ := v.ring_holdFrame
    obtain ⟨_, _, _, _, _, _, _, held⟩ := v.holdFrame_eq
    refine h.appended was (numbered.trans number) (ring ▸ appended) (counts ▸ counted) ?_ ?_
    · rw [held, holding]; simp
    · rw [held, number]
  case h_4 loading => exact h.of_idle ring since (.inl loading)
  case h_5 standby => exact h.of_idle ring since (.inr standby)

/-- Every effect keeps the ring in order. -/
theorem State.Effect.ringInOrder {s w : State} (e : s.Effect w) (h : s.RingInOrder) : w.RingInOrder := by
  cases e.shape with
  | loaded memory _ eq =>
    subst eq
    unfold State.endLoading
    simp only
    split
    · exact State.ringInOrder_enterPriming _
    · refine State.RingInOrder.enterStandby ?_
      exact h.congr rfl rfl rfl id id
  | expired _ eq => rw [eq]; exact h.expired
  | scanned _ _ eq =>
    obtain ⟨_, _, visited⟩ := State.visit_eq (List.finRange 16) s
    rw [eq, visited]; exact h.congr rfl rfl rfl id id
  | sampled scan v _ eq =>
    obtain ⟨m, _, mode, sampled⟩ := s.sampleChannel_eq scan.channel v
    obtain ⟨_, _, visited⟩ := State.visit_eq (channelsAfter scan.channel) (s.sampleChannel scan.channel v)
    rw [eq, State.scanOn, visited, sampled]
    rcases mode with rfl | ⟨holding, rfl, _⟩
    · exact h.congr rfl rfl rfl id id
    · exact h.congr rfl rfl rfl (fun m => by cases m) fun _ => .inr holding
  | missed scan _ eq =>
    obtain ⟨_, _, visited⟩ := State.visit_eq (channelsAfter scan.channel) (s.missChannel scan.channel)
    obtain ⟨_, ⟨missed, _⟩ | ⟨governing, _, missed⟩⟩ := s.missChannel_eq scan.channel
    · rw [eq, State.scanOn, visited, missed]; exact h.congr rfl rfl rfl id id
    · rw [eq, State.scanOn, visited, missed]
      exact h.congr rfl rfl rfl (fun m => by cases m) fun _ => .inl governing
  | started t _ _ _ eq => rw [eq]; exact State.ringInOrder_enterPriming t
  | stopped t _ frame eq => rw [eq]; exact (h.of_frame frame).enterStandby
  | kept frame => exact h.of_frame frame
  | _ => refine State.RingInOrder.of_frame ?_ ‹_›; exact h.congr rfl rfl rfl id id

/-- Settles O55: an expiry appends the record of the next frame number, and every other event leaves the ring or empties it. -/
theorem stepsKeepTheRingInOrder : Obligations.StepsKeepTheRingInOrder := by
  intro s t ring stepped
  refine step_keeps (P := State.RingInOrder) (Q := State.RingInOrder) ?_ ?_ ?_ ?_ ?_ ring stepped
  · exact fun s rest h => h.congr rfl rfl rfl id id
  · exact fun s cause => (State.atStart_restarted s cause).ringInOrder
  · exact fun s p r h => h.of_frame rfl
  · exact fun s w h e => e.ringInOrder h
  · exact fun w h => h.of_frame rfl

/-! ### What an image brings into force -/

/-- What holds of the staging configuration at its start values and is kept by every record taken holds of a good image (R136). -/
theorem judgeImage_induction {P : Configuration → Prop} (start : P .start)
    (staged : ∀ c r c', P c → Configuration.stage c r = some c' → P c') {memory : List Byte} {c : Configuration}
    (ok : judgeImage memory = .ok c) : P c ∧ c.crossCheck = .passed := by
  have records (fuel : Nat) : ∀ c bytes c', P c → stageRecords fuel c bytes = .ok c' → P c' := by
    induction fuel with
    | zero =>
      intro c bytes c' hc eq
      cases bytes <;> simp only [stageRecords] at eq <;> cases eq
      exact hc
    | succ fuel ih =>
      intro c bytes c' hc eq
      cases bytes with
      | nil => simp only [stageRecords] at eq; cases eq; exact hc
      | cons kind rest =>
        simp only [stageRecords] at eq
        split at eq
        · cases eq
        · split at eq
          · cases eq
          · split at eq
            · cases eq
            case h_2 c'' found =>
              obtain ⟨r, _, taken⟩ := Option.bind_eq_some_iff.1 found
              exact ih c'' _ c' (staged c r c'' hc taken) eq
  unfold judgeImage at ok
  simp only at ok
  split at ok
  · cases ok
  · split at ok
    · cases ok
    · split at ok
      · cases ok
      · split at ok
        · cases ok
        case h_2 c' taken =>
          split at ok
          case isTrue passed =>
            cases ok
            exact ⟨records _ _ _ _ start taken, passed⟩
          case isFalse => cases ok

/-- A record taken into the staging configuration replaces what its request names (R136). -/
theorem Configuration.stage_cases {c c' : Configuration} {r : Request} (h : c.stage r = some c') :
    (∃ f site, siteOf f = some site ∧ c' = { c with site := site }) ∨
    (∃ f p entry, portConfigOf f = some (p, entry) ∧ c' = { c with ports := c.ports.set p entry }) ∨
    (∃ f i channel, channelConfigOf f = some (i, channel) ∧ c' = { c with channels := c.channels.set i channel }) ∨
    ∃ b profile, defaultProfileOf b = some profile ∧ c' = { c with profile := profile } := by
  cases r with
  | setSite f =>
    obtain ⟨site, found, rfl⟩ := Option.map_eq_some_iff.1 h
    exact .inl ⟨f, site, found, rfl⟩
  | setPort f =>
    obtain ⟨⟨p, entry⟩, found, rfl⟩ := Option.map_eq_some_iff.1 h
    exact .inr (.inl ⟨f, p, entry, found, rfl⟩)
  | setChan f =>
    obtain ⟨⟨i, channel⟩, found, rfl⟩ := Option.map_eq_some_iff.1 h
    exact .inr (.inr (.inl ⟨f, i, channel, found, rfl⟩))
  | setProf b =>
    obtain ⟨profile, found, rfl⟩ := Option.map_eq_some_iff.1 h
    exact .inr (.inr (.inr ⟨b, profile, found, rfl⟩))
  | _ => cases h

/-! ### The Profile List -/

theorem defaultProfileOf_inRange {b : ProfileBlock} {profile : Profile} (h : defaultProfileOf b = some profile) :
    profile.inRange = true ∧ profile.bound = false := by
  unfold defaultProfileOf at h
  split at h
  case isTrue fits => cases h; exact ⟨fits, rfl⟩
  case isFalse => cases h

theorem judgeImage_profile {memory : List Byte} {c : Configuration} (ok : judgeImage memory = .ok c) :
    c.profile.inRange = true ∧ c.profile.bound = false := by
  refine (judgeImage_induction (P := fun c => c.profile.inRange = true ∧ c.profile.bound = false) ?_ ?_ ok).1
  · decide
  · intro c r c' hc taken
    rcases Configuration.stage_cases taken with ⟨_, _, _, rfl⟩ | ⟨_, _, _, _, rfl⟩ | ⟨_, _, _, _, rfl⟩ | ⟨b, profile, found, rfl⟩
    · exact hc
    · exact hc
    · exact hc
    · exact defaultProfileOf_inRange found

theorem inRange_clamp {a b : Int} (h : a ≤ b) (v : Int) : inRange a b (clamp a b v) = true := by
  rw [clamp_eq h]
  simp [inRange, h]

/-- A pushed profile is clamped into its ranges (R44). -/
theorem Profile.clamped_inRange (p : Profile) : p.clamped.inRange = true := by
  have window : (clamp 10 600 p.window).toNat = max 10 (min p.window 600) := by rw [clamp_eq (by decide)]; omega
  have low : (0 : Int) ≤ powerLimit := by decide
  have one : (1 : Int) ≤ powerLimit := by decide
  simp only [Profile.inRange, Profile.clamped, inRange_clamp low, inRange_clamp one, inRange_clamp (show (1 : Int) ≤ 256 by decide),
    inRange_clamp (show (0 : Int) ≤ 100 by decide), window]
  simp

/-- An expiry changes no field of an entry's profile but its RESEED flag (R46). -/
theorem Entry.tick_inRange {e e' : Entry} (h : e.tick.entry = some e') (fits : e.profile.inRange = true) : e'.profile.inRange = true := by
  unfold Entry.tick at h
  split at h
  · split at h <;> cases h <;> exact fits
  · split at h
    · cases h; exact fits
    · split at h <;> cases h; exact fits

theorem State.ListInOrder.congr {s t : State} (h : s.ListInOrder) (entries : t.entries = s.entries)
    (profile : t.defaultProfile = s.defaultProfile) : t.ListInOrder where
  capacity := entries ▸ h.capacity
  entries := entries ▸ h.entries
  default := profile ▸ h.default
  unbound := profile ▸ h.unbound

theorem State.ListInOrder.of_frame {s t : State} (h : s.ListInOrder) (frame : t.frame = s.frame) : t.ListInOrder :=
  h.congr (State.entries_of_frame frame) (State.defaultProfile_of_frame frame)

theorem State.ListInOrder.of_empty {t : State} (empty : t.entries = []) (default : t.defaultProfile.inRange = true)
    (unbound : t.defaultProfile.bound = false) : t.ListInOrder where
  capacity := by rw [empty]; exact Nat.zero_le _
  entries e mem := by rw [empty] at mem; cases mem
  default := default
  unbound := unbound

/-- Entries removed leave the list in order. -/
theorem State.ListInOrder.cut {s t : State} (h : s.ListInOrder) (sub : t.entries.Sublist s.entries)
    (profile : t.defaultProfile = s.defaultProfile) : t.ListInOrder where
  capacity := sub.length_le.trans h.capacity
  entries e mem := h.entries e (sub.subset mem)
  default := profile ▸ h.default
  unbound := profile ▸ h.unbound

theorem State.ListInOrder.enterStandby {s : State} (h : s.ListInOrder) : s.enterStandby.ListInOrder := by
  obtain ⟨_, _, eq⟩ := s.enterStandby_eq
  rw [eq]; exact .of_empty rfl h.default h.unbound

theorem State.ListInOrder.enterPriming {s : State} (h : s.ListInOrder) : s.enterPriming.ListInOrder := by
  obtain ⟨_, _, eq⟩ := s.enterPriming_eq
  rw [eq]; exact h.congr rfl rfl

theorem State.ListInOrder.prepareFrame {s : State} (h : s.ListInOrder) : s.prepareFrame.ListInOrder := by
  obtain ⟨_, _, _, _, _, eq⟩ := s.prepareFrame_eq
  rw [eq]
  refine ⟨(List.length_filterMap_le _ _).trans h.capacity, fun e' mem => ?_, h.default, h.unbound⟩
  obtain ⟨e, held, ticked⟩ := List.mem_filterMap.1 mem
  exact Entry.tick_inRange ticked (h.entries e held)

theorem State.ListInOrder.workFrame {s : State} (h : s.ListInOrder) : s.workFrame.ListInOrder := by
  unfold State.workFrame
  split
  · cases primed : s.primed s.primingCount with
    | none =>
      obtain ⟨r, l, eq⟩ := State.primeFrame_eq_of_none primed
      rw [eq]; exact h.congr rfl rfl
    | some power =>
      obtain ⟨r, l, eq⟩ := State.primeFrame_eq_of_some primed
      rw [eq]; exact h.congr rfl rfl
  · obtain ⟨_, _, _, _, _, _, _, _, eq⟩ := s.divided_eq
    rw [State.governFrame_eq]
    refine State.ListInOrder.of_frame ?_ (State.frame_emitFrame _)
    rw [eq]; exact h.congr rfl rfl
  · obtain ⟨_, _, _, _, _, _, _, eq⟩ := s.holdFrame_eq
    rw [eq]; exact h.congr rfl rfl
  · exact h
  · exact h

/-- Every effect keeps the Profile List in order. -/
theorem State.Effect.listInOrder {s w : State} (e : s.Effect w) (h : s.ListInOrder) : w.ListInOrder := by
  cases e.shape with
  | loaded memory _ eq =>
    subst eq
    unfold State.endLoading
    simp only
    split
    case h_1 c ok =>
      obtain ⟨fits, unbound⟩ := judgeImage_profile ok
      refine State.ListInOrder.enterPriming ?_
      exact ⟨h.capacity, h.entries, fits, unbound⟩
    · refine State.ListInOrder.enterStandby ?_
      exact h.congr rfl rfl
  | expired _ eq => rw [eq]; exact h.prepareFrame.workFrame
  | scanned _ _ eq =>
    obtain ⟨_, _, visited⟩ := State.visit_eq (List.finRange 16) s
    rw [eq, visited]; exact h.congr rfl rfl
  | sampled scan v _ eq =>
    obtain ⟨_, _, _, sampled⟩ := s.sampleChannel_eq scan.channel v
    obtain ⟨_, _, visited⟩ := State.visit_eq (channelsAfter scan.channel) (s.sampleChannel scan.channel v)
    rw [eq, State.scanOn, visited, sampled]; exact h.congr rfl rfl
  | missed scan _ eq =>
    obtain ⟨_, _, visited⟩ := State.visit_eq (channelsAfter scan.channel) (s.missChannel scan.channel)
    obtain ⟨_, ⟨missed, _⟩ | ⟨_, _, missed⟩⟩ := s.missChannel_eq scan.channel
    all_goals rw [eq, State.scanOn, visited, missed]; exact h.congr rfl rfl
  | cut es sub frame => exact State.ListInOrder.of_frame (h.cut (t := { s with entries := es }) sub rfl) frame
  | pushed p b delay expiry room frame =>
    refine State.ListInOrder.of_frame ?_ frame
    refine ⟨?_, fun e mem => ?_, h.default, h.unbound⟩
    · rw [List.length_append]; exact room
    · rcases List.mem_append.1 mem with held | new
      · exact h.entries e held
      · rw [List.mem_singleton.1 new]; exact Profile.clamped_inRange _
  | prof b profile _ found frame =>
    obtain ⟨fits, unbound⟩ := defaultProfileOf_inRange found
    exact State.ListInOrder.of_frame (s := { s with defaultProfile := profile }) ⟨h.capacity, h.entries, fits, unbound⟩ frame
  | started t _ _ frame eq =>
    rw [eq]
    refine State.ListInOrder.enterPriming (State.ListInOrder.of_frame ?_ frame)
    exact h.congr rfl rfl
  | stopped t _ frame eq => rw [eq]; exact (h.of_frame frame).enterStandby
  | kept frame => exact h.of_frame frame
  | _ => refine State.ListInOrder.of_frame ?_ ‹_›; exact h.congr rfl rfl

/-- Settles O58: entries are clamped when they are pushed and SETPROF is range-checked, and every other event removes entries or leaves them. -/
theorem stepsKeepTheListInOrder : Obligations.StepsKeepTheListInOrder := by
  intro s t list stepped
  refine step_keeps (P := State.ListInOrder) (Q := State.ListInOrder) ?_ ?_ ?_ ?_ ?_ list stepped
  · exact fun s rest h => h.congr rfl rfl
  · exact fun s cause => (State.atStart_restarted s cause).listInOrder
  · exact fun s p r h => h.of_frame rfl
  · exact fun s w h e => e.listInOrder h
  · exact fun w h => h.of_frame rfl

end Sys2Proof.Machine
end

section
/-! One link port: acceptance, admission, notices and the transmitter (O50, O51, O52), and what keeps its queue and pending set within bounds. -/

namespace Sys2Proof.Machine

/-! ### The pending set -/

theorem mem_addNotice {n : Notice} {e : PendingNotice} {set : List PendingNotice} (h : e ∈ addNotice n set) :
    e ∈ set ∨ e.notice = n ∧ (e.count = 1 ∨ ∃ x ∈ set, e.count = countUp 255 x.count) := by
  induction set with
  | nil => simp only [addNotice, List.mem_singleton] at h; simp [h]
  | cons x rest ih =>
    unfold addNotice at h
    split at h
    · rcases List.mem_cons.1 h with rfl | held
      · exact .inr ⟨rfl, .inl rfl⟩
      · exact .inl held
    · split at h
      · rcases List.mem_cons.1 h with rfl | held
        · exact .inr ⟨rfl, .inr ⟨x, List.mem_cons_self, rfl⟩⟩
        · exact .inl (List.mem_cons_of_mem x held)
      · rcases List.mem_cons.1 h with rfl | held
        · exact .inl List.mem_cons_self
        · rcases ih held with old | ⟨new, one | ⟨y, mem, count⟩⟩
          · exact .inl (List.mem_cons_of_mem x old)
          · exact .inr ⟨new, .inl one⟩
          · exact .inr ⟨new, .inr ⟨y, List.mem_cons_of_mem x mem, count⟩⟩

theorem code_of_mem_addNotice {n : Notice} {e : PendingNotice} {set : List PendingNotice} (h : e ∈ addNotice n set) :
    e ∈ set ∨ e.notice.code = n.code := by
  rcases mem_addNotice h with old | ⟨new, _⟩
  · exact .inl old
  · exact .inr (by rw [new])

/-- A set with each kind once, by rising kind code (R159). -/
def SortedByKind (set : List PendingNotice) : Prop := (set.map fun e => e.notice.code).Pairwise (· < ·)

theorem sortedByKind_cons {x : PendingNotice} {rest : List PendingNotice} :
    SortedByKind (x :: rest) ↔ (∀ e ∈ rest, x.notice.code < e.notice.code) ∧ SortedByKind rest := by
  simp [SortedByKind, List.pairwise_cons]

/-- A notice raised keeps each kind once and the order (R159). -/
theorem SortedByKind.addNotice {set : List PendingNotice} (h : SortedByKind set) (n : Notice) : SortedByKind (addNotice n set) := by
  induction set with
  | nil => simp [SortedByKind, Machine.addNotice]
  | cons x rest ih =>
    obtain ⟨above, sorted⟩ := sortedByKind_cons.1 h
    unfold Machine.addNotice
    split
    case isTrue lower =>
      refine sortedByKind_cons.2 ⟨fun e mem => ?_, h⟩
      rcases List.mem_cons.1 mem with rfl | mem
      · exact lower
      · exact lower.trans (above e mem)
    case isFalse =>
      split
      case isTrue same => exact sortedByKind_cons.2 ⟨fun e mem => same ▸ above e mem, sorted⟩
      case isFalse =>
        refine sortedByKind_cons.2 ⟨fun e mem => ?_, ih sorted⟩
        rcases code_of_mem_addNotice mem with old | new
        · exact above e old
        · omega

/-- Entries of other kinds stay as they are (R159). -/
theorem mem_addNotice_of_other {n : Notice} {e : PendingNotice} (other : e.notice.code ≠ n.code) (set : List PendingNotice) :
    e ∈ addNotice n set ↔ e ∈ set := by
  have not_new (c : Nat) : e ≠ ⟨c, n⟩ := by rintro rfl; exact other rfl
  induction set with
  | nil => simp [addNotice, not_new]
  | cons x rest ih =>
    unfold addNotice
    split
    · simp [not_new]
    · split
      case isTrue same =>
        have not_x : e ≠ x := by rintro rfl; exact other same.symm
        simp [not_new, not_x]
      · simp [ih]

/-- The entry of the notice's kind advances its count and takes the new detail (R159). -/
theorem merged_mem_addNotice {n : Notice} {e : PendingNotice} {set : List PendingNotice} (sorted : SortedByKind set) (mem : e ∈ set)
    (same : e.notice.code = n.code) : ⟨countUp 255 e.count, n⟩ ∈ addNotice n set := by
  induction set with
  | nil => cases mem
  | cons x rest ih =>
    obtain ⟨above, sorted⟩ := sortedByKind_cons.1 sorted
    unfold addNotice
    rcases List.mem_cons.1 mem with rfl | mem
    · rw [if_neg (by omega), if_pos same.symm]
      exact List.mem_cons_self
    · have lower := above e mem
      rw [if_neg (by omega), if_neg (by omega)]
      exact List.mem_cons_of_mem x (ih sorted mem)

/-- With no entry of its kind a notice makes one (R159). -/
theorem new_mem_addNotice {n : Notice} {set : List PendingNotice} (none : ∀ e ∈ set, e.notice.code ≠ n.code) :
    ⟨1, n⟩ ∈ addNotice n set := by
  induction set with
  | nil => exact List.mem_singleton.2 rfl
  | cons x rest ih =>
    unfold addNotice
    split
    · exact List.mem_cons_self
    · rw [if_neg fun same => none x List.mem_cons_self same.symm]
      exact List.mem_cons_of_mem x (ih fun e mem => none e (List.mem_cons_of_mem x mem))

theorem LinkPort.raise_of_up {l : LinkPort} (up : l.up = true) (n : Notice) : l.raise n = { l with notices := addNotice n l.notices } := by
  simp [LinkPort.raise, up]

theorem LinkPort.raise_of_down {l : LinkPort} (down : l.up = false) (n : Notice) : l.raise n = l := by
  simp [LinkPort.raise, down]

/-- Settles O51: the merge is `addNotice`, on a set that holds each kind once in order. -/
theorem noticesMergeByKind : Obligations.NoticesMergeByKind := by
  refine fun l n => ⟨fun down => LinkPort.raise_of_down down n, fun up sorted => ?_⟩
  rw [LinkPort.raise_of_up up]
  refine ⟨rfl, SortedByKind.addNotice sorted n, fun e other => mem_addNotice_of_other other l.notices, fun e mem same => ?_,
    fun none => new_mem_addNotice none⟩
  have merged := merged_mem_addNotice sorted mem same
  rwa [countUp_eq] at merged

/-! ### Admission to the queue -/

theorem Message.isLimit_iff (m : Message) : m.isLimit = true ↔ ∃ action value frame, m = .limit action value frame := by
  cases m <;> simp [Message.isLimit]

theorem LinkPort.enqueue_of_up {l : LinkPort} (up : l.up = true) (m : Message) : l.enqueue m = { l with queue := intoQueue l.queue m } := by
  simp [LinkPort.enqueue, up]

theorem LinkPort.enqueue_of_down {l : LinkPort} (down : l.up = false) (m : Message) : l.enqueue m = l := by
  simp [LinkPort.enqueue, down]

/-- A LIMIT takes the place of the one that waits (R112). -/
theorem intoQueue_limit {m x : Message} {older newer : List Message} (limit : m.isLimit = true) (waits : x.isLimit = true)
    (alone : ∀ y ∈ older ++ newer, y.isLimit = false) : intoQueue (older ++ x :: newer) m = older ++ m :: newer := by
  have kept (q : List Message) (h : ∀ y ∈ q, y.isLimit = false) : replaceLimit m q = q :=
    (List.map_congr_left fun y mem => by simp [h y mem]).trans (List.map_id q)
  have found : (older ++ x :: newer).any Message.isLimit = true := by simp [waits]
  rw [intoQueue, limit, found, Bool.and_self, if_pos rfl, replaceLimit, List.map_append, List.map_cons, if_pos waits]
  have left := kept older fun y mem => alone y (List.mem_append_left _ mem)
  have right := kept newer fun y mem => alone y (List.mem_append_right _ mem)
  rw [replaceLimit] at left right
  rw [left, right]

theorem intoQueue_of_no_limit {m : Message} {q : List Message} (none : m.isLimit = true → ∀ x ∈ q, x.isLimit = false) :
    intoQueue q m = if q.length < 4 then q ++ [m] else replaceNewestReply m q := by
  have no : (m.isLimit && q.any Message.isLimit) = false := by
    cases h : m.isLimit
    · rfl
    · simpa using none h
  rw [intoQueue, no]
  rfl

/-- A message takes the place of the newest reply (R154). -/
theorem replaceNewestReply_at {m x : Message} {older newer : List Message} (reply : x.isReply = true)
    (last : ∀ y ∈ newer, y.isReply = false) : replaceNewestReply m (older ++ x :: newer) = older ++ m :: newer := by
  have none_later : newer.any Message.isReply = false := by simpa using last
  induction older with
  | nil => simp [replaceNewestReply, none_later, reply]
  | cons y older ih => simp [replaceNewestReply, reply, ih]

/-- Settles O50: acceptance by the link's state, admission by what waits. -/
theorem linkAcceptsFramesAndAdmitsMessages : Obligations.LinkAcceptsFramesAndAdmitsMessages := by
  have not_limit {y : Message} (h : ¬∃ action value frame, y = .limit action value frame) : y.isLimit = false := by
    rw [← Message.isLimit_iff] at h; simpa using h
  refine ⟨fun l => ⟨fun up => ?_, fun down => ?_⟩, fun l m => ⟨fun down => LinkPort.enqueue_of_down down m, ?_, ?_, ?_⟩⟩
  · simp [LinkPort.accept, up, advance_eq]
  · simp [LinkPort.accept, down, advance_eq]
  · rintro up limit older x newer queue waits alone
    rw [LinkPort.enqueue_of_up up, queue,
      intoQueue_limit ((Message.isLimit_iff m).2 limit) ((Message.isLimit_iff x).2 waits) fun y mem => not_limit (alone y mem)]
  · intro up none room
    rw [LinkPort.enqueue_of_up up, intoQueue_of_no_limit fun limit x mem => not_limit (none ((Message.isLimit_iff m).1 limit) x mem),
      if_pos room]
  · intro up none full older x newer queue reply last
    rw [LinkPort.enqueue_of_up up, intoQueue_of_no_limit fun limit x mem => not_limit (none ((Message.isLimit_iff m).1 limit) x mem),
      if_neg (by omega), queue, replaceNewestReply_at reply last]

/-! ### The transmitter -/

theorem LinkPort.startSending_of_busy {l : LinkPort} (h : l.up = false ∨ l.transmitter ≠ .idle) : l.startSending = l := by
  unfold LinkPort.startSending
  split
  case h_1 idle up => simp [idle, up] at h
  case h_2 => rfl

theorem LinkPort.startSending_queued {l : LinkPort} {m : Message} {rest : List Message} (up : l.up = true) (idle : l.transmitter = .idle)
    (queue : l.queue = m :: rest) : l.startSending = { l with queue := rest, transmitter := .sending m } := by
  simp [LinkPort.startSending, up, idle, queue]

theorem LinkPort.startSending_noticed {l : LinkPort} {e : PendingNotice} {rest : List PendingNotice} (up : l.up = true)
    (idle : l.transmitter = .idle) (queue : l.queue = []) (notices : l.notices = e :: rest) :
    l.startSending = { l with notices := rest, transmitter := .sending (.notice e.count e.notice) } := by
  simp [LinkPort.startSending, up, idle, queue, notices]

theorem LinkPort.startSending_empty {l : LinkPort} (queue : l.queue = []) (notices : l.notices = []) : l.startSending = l := by
  unfold LinkPort.startSending
  rw [queue, notices]
  split <;> rfl

/-- Settles O52: the message being sent ends, and an idle transmitter takes the queue before the pending set. -/
theorem transmitterTakesTheOldestMessageThenNotices : Obligations.TransmitterTakesTheOldestMessageThenNotices := by
  refine ⟨fun s p => ⟨fun idle => ?_, fun m sending => ⟨s.setLink p { s.link p with transmitter := .idle }, ?_, rfl, ?_, ?_⟩⟩,
    fun l => ⟨LinkPort.startSending_of_busy, fun up idle => ⟨fun m rest queue => LinkPort.startSending_queued up idle queue,
      fun e rest queue notices => LinkPort.startSending_noticed up idle queue notices, LinkPort.startSending_empty⟩⟩⟩
  · simp [exec, execTransmitComplete, State.endSending, idle]
  · simp [exec, execTransmitComplete, State.endSending, sending]
  · simp
  · intro q other; simp [other]

/-! ### A link within its bounds -/

/-- A link within the bounds of R149, R154 and R159 in the middle of an event: what `LinkPort.Disciplined` asks but for the idle transmitter, which takes
what waits at the event's end (log entry 7). -/
structure LinkPort.Bounded (l : LinkPort) : Prop where
  length : l.queue.length ≤ 4
  oneLimit : l.queue.countP Message.isLimit ≤ 1
  noNotice : ∀ m ∈ l.queue, m.isLimit = true ∨ m.isReply = true
  kinds : SortedByKind l.notices
  counts : ∀ e ∈ l.notices, 1 ≤ e.count ∧ e.count ≤ 255
  rejections : l.rejections < 8
  down : l.up = false → l.queue = [] ∧ l.notices = [] ∧ l.transmitter = .idle ∧ l.rejections = 0

theorem LinkPort.Disciplined.bounded {l : LinkPort} (h : l.Disciplined) : l.Bounded where
  length := h.length
  oneLimit := by rw [List.countP_eq_length_filter]; exact h.oneLimit
  noNotice := h.noNotice
  kinds := h.kinds
  counts := h.counts
  rejections := h.rejections
  down := h.down

theorem LinkPort.Bounded.disciplined {l : LinkPort} (h : l.Bounded) (idle : l.transmitter = .idle → l.queue = [] ∧ l.notices = []) :
    l.Disciplined where
  length := h.length
  oneLimit := by rw [← List.countP_eq_length_filter]; exact h.oneLimit
  noNotice := h.noNotice
  kinds := h.kinds
  counts := h.counts
  rejections := h.rejections
  down := h.down
  idle := idle

/-- An idle transmitter takes what waits, so nothing waits for an idle one (R153). -/
theorem LinkPort.Bounded.startSending {l : LinkPort} (h : l.Bounded) : l.startSending.Disciplined := by
  by_cases busy : l.up = false ∨ l.transmitter ≠ .idle
  · rw [LinkPort.startSending_of_busy busy]
    refine h.disciplined fun idle => ?_
    rcases busy with down | busy
    · obtain ⟨queue, notices, _⟩ := h.down down
      exact ⟨queue, notices⟩
    · exact absurd idle busy
  · have up : l.up = true := by
      cases u : l.up
      · exact absurd (.inl u) busy
      · rfl
    have idle : l.transmitter = .idle := by
      by_contra other
      exact busy (.inr other)
    cases queue : l.queue with
    | cons m rest =>
      rw [LinkPort.startSending_queued up idle queue]
      have length := h.length
      have oneLimit := h.oneLimit
      have noNotice := h.noNotice
      rw [queue] at length oneLimit noNotice
      refine LinkPort.Bounded.disciplined ⟨Nat.le_of_succ_le length, ?_, fun m' mem => noNotice m' (List.mem_cons_of_mem m mem), h.kinds,
        h.counts, h.rejections, fun down => ?_⟩ fun sending => ?_
      · exact ((List.sublist_cons_self m rest).countP_le).trans oneLimit
      · rw [up] at down; cases down
      · cases sending
    | nil =>
      cases notices : l.notices with
      | nil =>
        rw [LinkPort.startSending_empty queue notices]
        exact h.disciplined fun _ => ⟨queue, notices⟩
      | cons e rest =>
        rw [LinkPort.startSending_noticed up idle queue notices]
        have kinds := h.kinds
        have counts := h.counts
        rw [notices] at kinds counts
        refine LinkPort.Bounded.disciplined ⟨h.length, h.oneLimit, h.noNotice, (sortedByKind_cons.1 kinds).2,
          fun e' mem => counts e' (List.mem_cons_of_mem e mem), h.rejections, fun down => ?_⟩ fun sending => ?_
        · rw [up] at down; cases down
        · cases sending

/-! ### What keeps a link within its bounds -/

theorem length_replaceNewestReply (m : Message) (q : List Message) : (replaceNewestReply m q).length = q.length := by
  induction q with
  | nil => rfl
  | cons x rest ih =>
    unfold replaceNewestReply
    split
    · simp [ih]
    · split <;> rfl

theorem mem_replaceNewestReply {m y : Message} {q : List Message} (h : y ∈ replaceNewestReply m q) : y = m ∨ y ∈ q := by
  induction q with
  | nil => cases h
  | cons x rest ih =>
    unfold replaceNewestReply at h
    split at h
    · rcases List.mem_cons.1 h with rfl | h
      · exact .inr List.mem_cons_self
      · exact (ih h).imp_right (List.mem_cons_of_mem x)
    · split at h
      · rcases List.mem_cons.1 h with rfl | h
        · exact .inl rfl
        · exact .inr (List.mem_cons_of_mem x h)
      · exact .inr h

/-- A message in the place of a reply adds at most itself to the LIMITs. -/
theorem countP_replaceNewestReply_le (m : Message) (q : List Message) :
    (replaceNewestReply m q).countP Message.isLimit ≤ q.countP Message.isLimit + if m.isLimit then 1 else 0 := by
  induction q with
  | nil => exact Nat.zero_le _
  | cons x rest ih =>
    unfold replaceNewestReply
    split
    · simp only [List.countP_cons]; omega
    · split
      · simp only [List.countP_cons]; omega
      · exact Nat.le_add_right _ _

/-- Admission keeps at most four messages and one LIMIT (R154). -/
theorem LinkPort.Bounded.enqueue {l : LinkPort} (h : l.Bounded) {m : Message} (kind : m.isLimit = true ∨ m.isReply = true) :
    (l.enqueue m).Bounded := by
  cases up : l.up with
  | false => rwa [LinkPort.enqueue_of_down up]
  | true =>
    rw [LinkPort.enqueue_of_up up]
    have notDown {P : Prop} (down : l.up = false) : P := by simp [up] at down
    by_cases replaces : m.isLimit = true ∧ l.queue.any Message.isLimit = true
    · have eq : intoQueue l.queue m = replaceLimit m l.queue := by simp [intoQueue, replaces]
      have same (x : Message) : (if x.isLimit = true then m else x).isLimit = x.isLimit := by
        split
        case isTrue limit => rw [replaces.1, limit]
        case isFalse => rfl
      rw [eq]
      refine ⟨?_, ?_, ?_, h.kinds, h.counts, h.rejections, notDown⟩
      · simpa [replaceLimit] using h.length
      · rw [replaceLimit, List.countP_map]
        exact (List.countP_congr fun x _ => by simp [same]).trans_le h.oneLimit
      · intro y mem
        obtain ⟨x, held, rfl⟩ := List.mem_map.1 mem
        split
        exacts [.inl replaces.1, h.noNotice x held]
    · have none : m.isLimit = true → ∀ x ∈ l.queue, x.isLimit = false := by
        intro limit x mem
        by_contra waits
        exact replaces ⟨limit, List.any_eq_true.2 ⟨x, mem, by simpa using waits⟩⟩
      have few : l.queue.countP Message.isLimit + (if m.isLimit then 1 else 0) ≤ 1 := by
        split
        case isTrue limit =>
          have : l.queue.countP Message.isLimit = 0 := List.countP_eq_zero.2 fun x mem => by simp [none limit x mem]
          omega
        case isFalse => exact h.oneLimit
      rw [intoQueue_of_no_limit none]
      split
      case isTrue room =>
        refine ⟨?_, ?_, ?_, h.kinds, h.counts, h.rejections, notDown⟩
        · rw [List.length_append]; exact room
        · rw [List.countP_append, List.countP_singleton]; exact few
        · intro y mem
          rcases List.mem_append.1 mem with held | new
          · exact h.noNotice y held
          · rw [List.mem_singleton.1 new]; exact kind
      case isFalse =>
        refine ⟨?_, (countP_replaceNewestReply_le m l.queue).trans few, ?_, h.kinds, h.counts, h.rejections, notDown⟩
        · rw [length_replaceNewestReply]; exact h.length
        · intro y mem
          rcases mem_replaceNewestReply mem with rfl | held
          exacts [kind, h.noNotice y held]

/-- A notice raised keeps each kind once and its count within 1 … 255 (R159). -/
theorem LinkPort.Bounded.raise {l : LinkPort} (h : l.Bounded) (n : Notice) : (l.raise n).Bounded := by
  cases up : l.up with
  | false => rwa [LinkPort.raise_of_down up]
  | true =>
    rw [LinkPort.raise_of_up up]
    refine ⟨h.length, h.oneLimit, h.noNotice, h.kinds.addNotice n, fun e mem => ?_, h.rejections, fun down => ?_⟩
    · rcases mem_addNotice mem with old | ⟨_, one | ⟨x, held, count⟩⟩
      · exact h.counts e old
      · omega
      · obtain ⟨low, high⟩ := h.counts x held
        rw [count]
        unfold countUp
        split <;> omega
    · rw [up] at down; cases down

theorem LinkPort.Bounded.cleared {l : LinkPort} (h : l.Bounded) : { l with notices := [] }.Bounded where
  length := h.length
  oneLimit := h.oneLimit
  noNotice := h.noNotice
  kinds := List.Pairwise.nil
  counts e mem := by cases mem
  rejections := h.rejections
  down d := by
    obtain ⟨queue, _, idle, none⟩ := h.down d
    exact ⟨queue, rfl, idle, none⟩

theorem LinkPort.Bounded.withdrawn {l : LinkPort} (h : l.Bounded) : { l with queue := l.queue.filter fun m => !m.isLimit }.Bounded where
  length := (List.length_filter_le _ _).trans h.length
  oneLimit := (List.filter_sublist.countP_le).trans h.oneLimit
  noNotice m mem := h.noNotice m (List.mem_of_mem_filter mem)
  kinds := h.kinds
  counts := h.counts
  rejections := h.rejections
  down d := by
    obtain ⟨queue, notices, idle, none⟩ := h.down d
    exact ⟨by simp [queue], notices, idle, none⟩

theorem LinkPort.Bounded.accept {l : LinkPort} (h : l.Bounded) : l.accept.Bounded := by
  cases up : l.up with
  | true =>
    simp only [LinkPort.accept, up, if_true]
    exact ⟨h.length, h.oneLimit, h.noNotice, h.kinds, h.counts, by simp, fun down => by simp at down⟩
  | false =>
    simp only [LinkPort.accept, up]
    exact ⟨by simp, by simp, by simp, List.Pairwise.nil, by simp, by simp, by simp⟩

theorem LinkPort.Bounded.reject {l : LinkPort} (h : l.Bounded) (keeps : l.losesLink = false) : l.reject.Bounded where
  length := h.length
  oneLimit := h.oneLimit
  noNotice := h.noNotice
  kinds := h.kinds
  counts := h.counts
  rejections := by
    have few := h.rejections
    cases up : l.up <;> simp [LinkPort.reject, LinkPort.losesLink, Config.rejectionLimit, up] at keeps ⊢ <;> omega
  down d := by
    obtain ⟨queue, notices, idle, none⟩ := h.down d
    have down : l.up = false := d
    exact ⟨queue, notices, idle, by simp [LinkPort.reject, down, none]⟩

theorem LinkPort.down_bounded (l : LinkPort) : l.down.Bounded := by
  refine ⟨?_, ?_, ?_, List.Pairwise.nil, ?_, ?_, ?_⟩ <;> simp [LinkPort.down]

theorem LinkPort.Bounded.counted {l : LinkPort} (h : l.Bounded) : { l with accepted := 0, rejected := 0 }.Bounded :=
  ⟨h.length, h.oneLimit, h.noNotice, h.kinds, h.counts, h.rejections, h.down⟩

theorem LinkPort.Bounded.silenced {l : LinkPort} (h : l.Bounded) : { l with transmitter := .idle }.Bounded where
  length := h.length
  oneLimit := h.oneLimit
  noNotice := h.noNotice
  kinds := h.kinds
  counts := h.counts
  rejections := h.rejections
  down d := by
    obtain ⟨queue, notices, _, none⟩ := h.down d
    exact ⟨queue, notices, rfl, none⟩

end Sys2Proof.Machine
end

section
/-! Every link port stays within its bounds over every event (O54). -/

namespace Sys2Proof.Machine

/-! ### Operations on the links -/

/-- Every link port is within its bounds in the middle of an event. -/
def State.LinksBounded (s : State) : Prop := ∀ p, (s.link p).Bounded

namespace State.LinksBounded
variable {s t : State} (h : s.LinksBounded)
include h

theorem of_links (eq : t.links = s.links) : t.LinksBounded := fun p => by
  rw [State.link, eq]; exact h p

theorem setLink {p : Port} {l : LinkPort} (bounded : l.Bounded) : (s.setLink p l).LinksBounded := fun q => by
  rw [State.link_setLink]
  split
  exacts [bounded, h q]

theorem mapLinks {f : Port → LinkPort → LinkPort} (bounded : ∀ p l, l.Bounded → (f p l).Bounded) : (s.mapLinks f).LinksBounded := fun q => by
  rw [State.link_mapLinks]
  exact bounded q _ (h q)

theorem setRecord (p : Port) (r : PortRecord) : (s.setRecord p r).LinksBounded := h.of_links rfl

theorem mapRecords (f : Port → PortRecord → PortRecord) : (s.mapRecords f).LinksBounded := h.of_links rfl

theorem limit (p : Port) (a : LimitAction) (v : Int) (n : FrameNo) : (s.enqueue p (.limit a v n)).LinksBounded :=
  h.setLink ((h p).enqueue (.inl rfl))

theorem reply (p : Port) {m : Message} (reply : m.isReply = true) : (s.enqueue p m).LinksBounded :=
  h.setLink ((h p).enqueue (.inr reply))

theorem ack (p : Port) (k : Byte) : (s.ack p k).LinksBounded := h.reply p rfl

theorem nak (p : Port) (k : Byte) (r : NakReason) : (s.nak p k r).LinksBounded := h.reply p rfl

theorem withdrawLimit (p : Port) : (s.withdrawLimit p).LinksBounded := h.setLink (h p).withdrawn

theorem raise (n : Notice) : (s.raise n).LinksBounded :=
  h.mapLinks fun p l bounded => by
    split
    exacts [bounded.raise n, bounded]

theorem raiseAll (ns : List Notice) : (s.raiseAll ns).LinksBounded :=
  List.foldlRecOn ns State.raise h fun _ held n _ => raise held n

theorem listChange (c : ListCause) (p : Option Port) : (s.listChange c p).LinksBounded := h.raise _

theorem dropFormerSets (before : State) : (s.dropFormerSets before).LinksBounded :=
  h.mapLinks fun p l bounded => by
    split
    exacts [bounded.cleared, bounded]

theorem changeMode (m : Mode) : (s.changeMode m).LinksBounded := by
  refine raise (dropFormerSets (s := { s with mode := m }) ?_ s) _
  exact h.of_links rfl

theorem acceptFrame (p : Port) : (s.acceptFrame p).LinksBounded := (h.setLink (h p).accept).setRecord p _

/-! ### LIMITs and budget releases -/

theorem sendLimit (p : Port) (a : LimitAction) (v : Int) : (s.sendLimit p a v).LinksBounded := (h.setRecord p _).limit p a v _

theorem sendKeep (p : Port) : (s.sendKeep p).LinksBounded := h.sendLimit p _ _

theorem sendLower (p : Port) (v : Int) : (s.sendLower p v).LinksBounded := h.sendLimit p _ _

theorem sendRaise (p : Port) (g : Int) : (s.sendRaise p g).LinksBounded := (h.setRecord p _).sendLimit p _ _

theorem serveStaged (p : Port) : (s.serveStaged p).LinksBounded := by
  unfold State.serveStaged
  simp only
  split
  · split
    · split
      exacts [(h.sendRaise p _).setRecord p _, h.sendRaise p _]
    · exact h
  · exact h

theorem budgetRelease : s.budgetRelease.LinksBounded :=
  List.foldlRecOn s.sweepOrder State.serveStaged h fun _ held p _ => serveStaged held p

theorem releaseIfFallen (p : Port) (was : Int) : (s.releaseIfFallen p was).LinksBounded := by
  unfold State.releaseIfFallen
  split
  exacts [h.budgetRelease, h]

theorem openRecall (p : Port) (d : Int) : (s.openRecall p d).LinksBounded := (h.setRecord p _).sendLower p d

theorem firstPassAt (item : Port × Class) : (s.firstPassAt item).LinksBounded := by
  unfold State.firstPassAt
  simp only
  split
  · exact h.openRecall _ _
  · split
    exacts [(h.setRecord _ _).sendLower _ _, h.sendLower _ _]
  · exact (h.setRecord _ _).sendLower _ _
  · exact (h.setRecord _ _).sendLower _ _
  · exact h.sendKeep _
  · exact h
  · exact h.sendKeep _
  · exact h.sendLower _ _

theorem grantRaise (p : Port) (d : Int) : (s.grantRaise p d).LinksBounded := by
  have granted : (if (s.record p).committed < s.fit p d then s.sendRaise p (s.fit p d) else s.sendKeep p).LinksBounded := by
    split
    exacts [h.sendRaise p _, h.sendKeep p]
  unfold State.grantRaise
  simp only
  split
  exacts [granted, granted.setRecord p _]

theorem secondPassAt (item : Port × Class) : (s.secondPassAt item).LinksBounded := by
  unfold State.secondPassAt
  split
  exacts [h.grantRaise _ _, h]

theorem emitFrame : s.emitFrame.LinksBounded :=
  List.foldlRecOn _ State.secondPassAt
    (List.foldlRecOn _ State.firstPassAt (h.mapRecords _) fun _ held item _ => firstPassAt held item)
    fun _ held item _ => secondPassAt held item

theorem holdAt (p : Port) : (s.holdAt p).LinksBounded := by
  unfold State.holdAt
  split
  exacts [h, h.sendLower p _, h.sendKeep p]

theorem emitHeld : s.emitHeld.LinksBounded := List.foldlRecOn _ State.holdAt h fun _ held p _ => holdAt held p

theorem primeAt (p : Port) : (s.primeAt p).LinksBounded := by
  unfold State.primeAt
  split
  exacts [h.sendKeep p, h]

theorem emitPriming : s.emitPriming.LinksBounded := List.foldlRecOn _ State.primeAt h fun _ held p _ => primeAt held p

/-! ### Modes and the image -/

theorem releasePort (p : Port) : (s.releasePort p).LinksBounded := by
  unfold State.releasePort
  split
  exacts [h, h.limit p _ _ _]

theorem enterStandby : s.enterStandby.LinksBounded := by
  have released : ((List.finRange 12).foldl State.releasePort s).LinksBounded :=
    List.foldlRecOn _ State.releasePort h fun _ held p _ => releasePort held p
  unfold State.enterStandby
  generalize (List.finRange 12).foldl State.releasePort s = u at *
  refine changeMode ?_ _
  split
  · exact released.of_links rfl
  · refine listChange ?_ _ _
    exact released.of_links rfl

theorem enterPriming : s.enterPriming.LinksBounded := by
  unfold State.enterPriming
  refine changeMode ?_ _
  exact h.of_links rfl

theorem enterHolding : s.enterHolding.LinksBounded := by
  unfold State.enterHolding
  refine changeMode ?_ _
  exact h.of_links rfl

theorem endLoading (memory : List Byte) : (s.endLoading memory).LinksBounded := by
  unfold State.endLoading
  simp only
  split
  · refine enterPriming ?_
    exact h.of_links rfl
  · refine enterStandby ?_
    exact h.of_links rfl

theorem configurePort (p : Port) (c : PortConfig) : (s.configurePort p c).LinksBounded := by
  unfold State.configurePort
  refine dropFormerSets ?_ s
  exact h.of_links rfl

/-! ### The frames -/

theorem ageRecords : s.ageRecords.LinksBounded := by
  unfold State.ageRecords
  refine raiseAll ?_ _
  exact h.of_links rfl

theorem updateList : s.updateList.LinksBounded := by
  unfold State.updateList
  refine List.foldlRecOn _ _ ?_ fun _ held change _ => listChange held _ _
  split
  exacts [h.of_links rfl, h.of_links rfl]

theorem prepareFrame : s.prepareFrame.LinksBounded := by
  have numbered : s.numberFrame.LinksBounded := by
    unfold State.numberFrame
    split
    exacts [h.of_links rfl, h.of_links rfl, h]
  exact (ageRecords numbered).updateList

theorem reportStages (st : Stages) : (s.reportStages st).LinksBounded := by
  unfold State.reportStages
  have conflicted : (match st.conflict with
      | none => s
      | some amount => { s with windowConflicts := advance s.windowConflicts }.raise (.windowConflict amount)).LinksBounded := by
    split
    · exact h
    · refine raise ?_ _
      exact h.of_links rfl
  simp only
  split
  · exact conflicted
  · refine raise ?_ _
    exact conflicted.of_links rfl

theorem appendRecord (profile : Profile) (r : FrameRecord) : (s.appendRecord profile r).LinksBounded := by
  have pushed : (s.pushRecord r).LinksBounded := h.of_links rfl
  unfold State.appendRecord State.checkCompliance
  split
  · exact pushed
  · simp only
    split
    · exact pushed.of_links rfl
    · split
      · exact pushed.of_links rfl
      · refine raise ?_ _
        exact pushed.of_links rfl

theorem divided : s.divided.LinksBounded := by
  have ready : s.readied.LinksBounded := h.of_links rfl
  have reported := ready.reportStages s.frameStages
  have figured : s.figured.LinksBounded := by
    unfold State.figured
    generalize s.frameStages.reference = r, s.frameTarget = t, s.readied.actualNet s.frameNet = n
    exact reported.of_links rfl
  rw [State.divided, State.allocate, State.writeDesired]
  exact (figured.appendRecord s.activeProfile (s.figured.frameRecord s.frameMarks)).mapRecords _

theorem holdFrame : s.holdFrame.LinksBounded := by
  unfold State.holdFrame
  refine emitHeld (appendRecord ?_ _ _)
  exact h.of_links rfl

theorem primeFrame : s.primeFrame.LinksBounded := by
  cases primed : s.primed s.primingCount with
  | none =>
    rw [State.primeFrame_waits primed]
    refine emitPriming ?_
    exact h.of_links rfl
  | some power =>
    rw [State.primeFrame_seeds primed]
    unfold State.endPriming
    refine emitPriming (changeMode ?_ _)
    exact h.of_links rfl

theorem workFrame : s.workFrame.LinksBounded := by
  unfold State.workFrame
  split
  exacts [h.primeFrame, h.divided.emitFrame, h.holdFrame, h, h]

/-! ### Channels -/

theorem sampleChannel (i : ChannelIndex) (v : Int) : (s.sampleChannel i v).LinksBounded := by
  have taken : (s.setChannel i ((s.channel i).takeSample v)).LinksBounded := h.of_links rfl
  unfold State.sampleChannel
  simp only
  split
  · exact taken
  · split
    · unfold State.meterReturn
      split
      exacts [((taken.raiseAll _).raise _).changeMode _, (taken.raiseAll _).raise _]
    · exact taken.raiseAll _

theorem missChannel (i : ChannelIndex) : (s.missChannel i).LinksBounded := by
  have missed : (s.setChannel i (s.channel i).takeMissing).LinksBounded := h.of_links rfl
  unfold State.missChannel
  simp only
  split
  · unfold State.meterLoss
    split
    exacts [(missed.raise _).enterHolding, missed.raise _]
  · exact missed

theorem visit (is : List ChannelIndex) : (s.visit is).LinksBounded := by
  obtain ⟨_, _, eq⟩ := State.visit_eq is s
  rw [eq]
  exact h.of_links rfl

/-! ### Requests -/

theorem takeJoin (p : Port) : (s.takeJoin p).LinksBounded := (((h.ack p _).setRecord p _).sendKeep p).releaseIfFallen p _

theorem takeLeave (p : Port) : (s.takeLeave p).LinksBounded := by
  unfold State.takeLeave
  simp only
  split
  exacts [h.ack p _, (((h.ack p _).setRecord p _).withdrawLimit p).releaseIfFallen p _]

theorem takeYield (p : Port) (v : Int) : (s.takeYield p v).LinksBounded := by
  unfold State.takeYield
  simp only
  split
  · exact (h.setRecord p _).nak p _ _
  · split
    · exact ((h.setRecord p _).ack p _).budgetRelease
    · split
      exacts [((h.setRecord p _).ack p _).budgetRelease, (h.setRecord p _).nak p _ _]

theorem returnPort (p : Port) : (s.returnPort p).LinksBounded := by
  unfold State.returnPort
  split
  · refine releaseIfFallen ?_ p _
    split
    exacts [(h.setRecord p _).sendLower p _, (h.setRecord p _).sendKeep p]
  · exact h

theorem checkOverrun (p : Port) : (s.checkOverrun p).LinksBounded := by
  unfold State.checkOverrun
  simp only
  split
  · exact h
  · split
    · exact h.setRecord p _
    · split
      exacts [(h.setRecord p _).raise _, h.setRecord p _]

theorem takeClusterReport (p : Port) (o a d : Int) : (s.takeClusterReport p o a d).LinksBounded :=
  ((h.setRecord p _).returnPort p).checkOverrun p

theorem takeStorageReport (p : Port) (a d c e k : Int) : (s.takeStorageReport p a d c e k).LinksBounded := (h.setRecord p _).returnPort p

theorem takePush (p : Port) (b : ProfileBlock) (delay : Byte) (expiry : BitVec 16) : (s.takePush p b delay expiry).LinksBounded := by
  unfold State.takePush
  split
  · exact h.nak p _ _
  · refine listChange ?_ _ _
    exact (h.reply p (m := .ack 0x20#8 (!(profileOf b).inRange) false) rfl).of_links rfl

theorem takeDrop (p : Port) : (s.takeDrop p).LinksBounded := by
  unfold State.takeDrop
  split
  · exact h.nak p _ _
  · refine listChange (ack ?_ p _) _ _
    exact h.of_links rfl

theorem takeSetSite (p : Port) (f : SiteFields) : (s.takeSetSite p f).LinksBounded := by
  unfold State.takeSetSite
  split
  · refine ack ?_ p _
    exact h.of_links rfl
  · exact h.nak p _ _

theorem takeSetPort (p : Port) (f : PortFields) : (s.takeSetPort p f).LinksBounded := by
  unfold State.takeSetPort
  split
  exacts [(h.configurePort _ _).ack p _, h.nak p _ _]

theorem takeSetChan (p : Port) (f : ChannelFields) : (s.takeSetChan p f).LinksBounded := by
  unfold State.takeSetChan
  split
  · refine ack ?_ p _
    exact h.of_links rfl
  · exact h.nak p _ _

theorem takeSetProf (p : Port) (b : ProfileBlock) : (s.takeSetProf p b).LinksBounded := by
  unfold State.takeSetProf
  split
  · refine listChange (ack ?_ p _) _ _
    exact h.of_links rfl
  · exact h.nak p _ _

theorem runChecked (p : Port) : (s.runChecked p).LinksBounded := by
  unfold State.runChecked
  generalize s.inForce.crossCheck = result
  simp only
  split
  · refine enterPriming (ack ?_ p _)
    exact h.of_links rfl
  · refine nak ?_ p _ _
    exact h.of_links rfl

theorem zeroCounters : s.zeroCounters.LinksBounded := by
  unfold State.zeroCounters
  refine mapLinks ?_ fun _ l bounded => bounded.counted
  exact h.of_links rfl

theorem takeClearAlarms (p : Port) (channel : Byte) : (s.takeClearAlarms p channel).LinksBounded := by
  unfold State.takeClearAlarms
  split
  · refine ack ?_ p _
    exact h.of_links rfl
  · split
    · refine ack ?_ p _
      exact h.of_links rfl
    · exact h.nak p _ _

theorem takeClearNotices (p : Port) : (s.takeClearNotices p).LinksBounded := (h.setLink (h p).cleared).ack p _

/-! ### The loss of a link -/

theorem silencePort (p : Port) : (s.silencePort p).LinksBounded := by
  unfold State.silencePort
  simp only
  split
  exacts [(h.setRecord p _).raise _, h]

theorem unbindTimes (p : Port) (n : Nat) : (State.unbindTimes p n s).LinksBounded := by
  induction n generalizing s with
  | zero => exact h
  | succ n ih =>
    unfold State.unbindTimes
    split
    · exact h
    · refine ih (listChange ?_ _ _)
      exact h.of_links rfl

/-- Whatever stood on the link is lost (R150). -/
theorem loseLink (p : Port) (l : LinkPort) : ((s.setLink p l).loseLink p).LinksBounded := by
  have down : (s.setLink p l).setLink p ((s.setLink p l).link p).down = s.setLink p ((s.setLink p l).link p).down := by
    simp [State.setLink]
  have silent := (h.setLink (p := p) ((s.setLink p l).link p).down_bounded).silencePort p
  unfold State.loseLink
  rw [down]
  simp only
  split
  exacts [silent.unbindTimes p _, silent]

/-- A rejected frame counts below eight, and the eighth takes the link DOWN (R149). -/
theorem rejectFrame (p : Port) : (s.rejectFrame p).LinksBounded := by
  unfold State.rejectFrame
  simp only
  split
  case isTrue => exact h.loseLink p _
  case isFalse keeps => exact h.setLink ((h p).reject (by simpa using keeps))

end State.LinksBounded

/-- Every effect leaves each link port within its bounds. -/
theorem State.Effect.linksBounded {s w : State} (e : s.Effect w) (h : s.LinksBounded) : w.LinksBounded := by
  cases e with
  | loaded memory => exact h.endLoading memory
  | frame => exact h.prepareFrame.workFrame
  | scanned => exact h.visit _
  | sampled scan v => exact (h.sampleChannel scan.channel v).visit _
  | missed scan => exact (h.missChannel scan.channel).visit _
  | sent p => exact h.setLink (h p).silenced
  | rejected p => exact h.rejectFrame p
  | replied p m reply => exact (h.acceptFrame p).reply p reply
  | restart p => exact ((h.acceptFrame p).reply p (m := .ack 0x29#8 false true) rfl).of_links rfl
  | joined p => exact (h.acceptFrame p).takeJoin p
  | clusterReport p => exact (h.acceptFrame p).takeClusterReport p _ _ _
  | storageReport p => exact (h.acceptFrame p).takeStorageReport p _ _ _ _ _
  | yielded p => exact (h.acceptFrame p).takeYield p _
  | left p => exact (h.acceptFrame p).takeLeave p
  | pushed p => exact (h.acceptFrame p).takePush p _ _ _
  | dropped p => exact (h.acceptFrame p).takeDrop p
  | site p => exact (h.acceptFrame p).takeSetSite p _
  | port p => exact (h.acceptFrame p).takeSetPort p _
  | chan p => exact (h.acceptFrame p).takeSetChan p _
  | prof p => exact (h.acceptFrame p).takeSetProf p _
  | modeRun p => exact (h.acceptFrame p).runChecked p
  | modeStandby p => exact ((h.acceptFrame p).ack p _).enterStandby
  | counters p => exact (h.acceptFrame p).zeroCounters.ack p _
  | alarms p => exact (h.acceptFrame p).takeClearAlarms p _
  | notices p => exact (h.acceptFrame p).takeClearNotices p

theorem LinkPort.Disciplined.moved {l : LinkPort} (h : l.Disciplined) (r : Receiver) : { l with receiver := r }.Disciplined :=
  ⟨h.length, h.oneLimit, h.noNotice, h.kinds, h.counts, h.rejections, h.down, h.idle⟩

/-- Settles O54: every effect keeps each link within its bounds, and the end of the event leaves nothing waiting for an idle transmitter. -/
theorem stepsKeepTheLinksDisciplined : Obligations.StepsKeepTheLinksDisciplined := by
  intro s t links stepped
  refine step_keeps (P := State.LinksDisciplined) (Q := State.LinksBounded) ?_ ?_ ?_ ?_ ?_ links stepped
  · exact fun s rest h => h
  · exact fun s cause => (State.atStart_restarted s cause).linksDisciplined
  · intro s p r h q
    rw [State.setReceiver, State.link_setLink]
    split
    exacts [(h p).moved r, h q]
  · exact fun s w h e => e.linksBounded fun p => (h p).bounded
  · intro w h p
    rw [State.link_mapLinks]
    exact (h p).startSending

end Sys2Proof.Machine
end

section
/-! The fit rule, a budget release and the emission of a frame, port by port (O38, O39). -/

namespace Sys2Proof.Machine

/-! ### Sums over the ports -/

theorem portSum_eq_sum (f : Port → Int) : portSum f = ∑ p, f p := (Fin.sum_univ_def f).symm

theorem portSum_le {f g : Port → Int} (h : ∀ p, f p ≤ g p) : portSum f ≤ portSum g := by
  rw [portSum_eq_sum, portSum_eq_sum]
  exact Finset.sum_le_sum fun p _ => h p

theorem portSum_congr {f g : Port → Int} (h : ∀ p, f p = g p) : portSum f = portSum g := by rw [funext h]

/-- A sum in which one port's figure changes. -/
theorem portSum_of_others {f g : Port → Int} {p : Port} (h : ∀ q, q ≠ p → g q = f q) : portSum g = portSum f + (g p - f p) := by
  rw [portSum_eq_sum, portSum_eq_sum, ← Finset.add_sum_erase _ f (Finset.mem_univ p), ← Finset.add_sum_erase _ g (Finset.mem_univ p),
    Finset.sum_congr rfl fun q mem => h q (Finset.ne_of_mem_erase mem)]
  ring

/-! ### What one port counts for -/

theorem PortConfig.exportShare_eq (c : PortConfig) (v : Int) : c.exportShare v =
    if c.role = .cluster then max v c.fallback else if c.role = .storage then max v 0 else 0 := by
  unfold PortConfig.exportShare
  split <;> simp_all

theorem PortConfig.netShare_mono (c : PortConfig) {v w : Int} (h : v ≤ w) : c.netShare v ≤ c.netShare w := by
  unfold PortConfig.netShare
  split
  exacts [h, le_refl _]

theorem PortConfig.exportShare_mono (c : PortConfig) {v w : Int} (h : v ≤ w) : c.exportShare v ≤ c.exportShare w := by
  rw [c.exportShare_eq, c.exportShare_eq]
  split
  · exact max_le_max_right _ h
  · split
    exacts [max_le_max_right _ h, le_refl _]

/-- A raise adds to the exported commitment only what lies above the share it already has (R110). -/
theorem PortConfig.exportShare_le (c : PortConfig) (v w : Int) : c.exportShare w ≤ c.exportShare v ∨ c.exportShare w = w := by
  rw [c.exportShare_eq, c.exportShare_eq]
  split
  · omega
  · split
    exacts [by omega, .inl (le_refl _)]

theorem Role.steerable_iff (r : Role) : r.steerable = true ↔ r = .cluster ∨ r = .storage := by
  cases r <;> simp [Role.steerable]

theorem PortConfig.netShare_of_steerable {c : PortConfig} (h : c.role.steerable = true) (v : Int) : c.netShare v = v := by
  simp [PortConfig.netShare, h]

/-! ### A state in which one port's record and link are written -/

/-- `t` is `s` with nothing but the record and the link of port `p` written. -/
structure State.WrittenAt (s : State) (p : Port) (t : State) : Prop where
  frame : t.frame = s.frame
  record : ∀ q, q ≠ p → t.record q = s.record q
  link : ∀ q, q ≠ p → t.link q = s.link q

namespace State.WrittenAt
variable {s t u : State} {p : Port}

theorem refl (s : State) (p : Port) : s.WrittenAt p s := ⟨rfl, fun _ _ => rfl, fun _ _ => rfl⟩

theorem trans (h : s.WrittenAt p t) (k : t.WrittenAt p u) : s.WrittenAt p u where
  frame := k.frame.trans h.frame
  record q other := (k.record q other).trans (h.record q other)
  link q other := (k.link q other).trans (h.link q other)

theorem setRecord (s : State) (p : Port) (r : PortRecord) : s.WrittenAt p (s.setRecord p r) where
  frame := rfl
  record q other := by simp [other]
  link q _ := by simp

theorem setLink (s : State) (p : Port) (l : LinkPort) : s.WrittenAt p (s.setLink p l) where
  frame := rfl
  record q _ := by simp
  link q other := by simp [other]

theorem enqueue (s : State) (p : Port) (m : Message) : s.WrittenAt p (s.enqueue p m) := setLink s p _

theorem sendLimit (s : State) (p : Port) (a : LimitAction) (v : Int) : s.WrittenAt p (s.sendLimit p a v) :=
  (setRecord s p _).trans (enqueue _ p _)

theorem sendKeep (s : State) (p : Port) : s.WrittenAt p (s.sendKeep p) := sendLimit s p _ _

theorem sendLower (s : State) (p : Port) (v : Int) : s.WrittenAt p (s.sendLower p v) := sendLimit s p _ _

theorem sendRaise (s : State) (p : Port) (g : Int) : s.WrittenAt p (s.sendRaise p g) := (setRecord s p _).trans (sendLimit _ p _ _)

theorem serveStaged (s : State) (p : Port) : s.WrittenAt p (s.serveStaged p) := by
  unfold State.serveStaged
  simp only
  split
  · split
    · split
      exacts [(sendRaise s p _).trans (setRecord _ p _), sendRaise s p _]
    · exact refl s p
  · exact refl s p

theorem firstPassAt (s : State) (p : Port) (c : Class) : s.WrittenAt p (s.firstPassAt (p, c)) := by
  unfold State.firstPassAt
  simp only
  split
  · exact (setRecord s p _).trans (sendLower _ p _)
  · split
    exacts [(setRecord s p _).trans (sendLower _ p _), sendLower s p _]
  · exact (setRecord s p _).trans (sendLower _ p _)
  · exact (setRecord s p _).trans (sendLower _ p _)
  · exact sendKeep s p
  · exact refl s p
  · exact sendKeep s p
  · exact sendLower s p _

theorem grantRaise (s : State) (p : Port) (d : Int) : s.WrittenAt p (s.grantRaise p d) := by
  have granted : s.WrittenAt p (if (s.record p).committed < s.fit p d then s.sendRaise p (s.fit p d) else s.sendKeep p) := by
    split
    exacts [sendRaise s p _, sendKeep s p]
  unfold State.grantRaise
  simp only
  split
  exacts [granted, granted.trans (setRecord _ p _)]

theorem secondPassAt (s : State) (p : Port) (c : Class) : s.WrittenAt p (s.secondPassAt (p, c)) := by
  unfold State.secondPassAt
  split
  exacts [grantRaise s p _, refl s p]

theorem holdAt (s : State) (p : Port) : s.WrittenAt p (s.holdAt p) := by
  unfold State.holdAt
  split
  exacts [refl s p, sendLower s p _, sendKeep s p]

theorem primeAt (s : State) (p : Port) : s.WrittenAt p (s.primeAt p) := by
  unfold State.primeAt
  split
  exacts [sendKeep s p, refl s p]

theorem releasePort (s : State) (p : Port) : s.WrittenAt p (s.releasePort p) := by
  unfold State.releasePort
  split
  exacts [refl s p, enqueue s p _]

theorem config (h : s.WrittenAt p t) (q : Port) : t.config q = s.config q := State.config_of_frame h.frame q

theorem netCommitment (h : s.WrittenAt p t) : t.netCommitment =
    s.netCommitment + ((s.config p).netShare (t.record p).committed - (s.config p).netShare (s.record p).committed) := by
  rw [State.netCommitment, portSum_of_others (p := p) fun q other => by rw [h.config, h.record q other], h.config]
  rfl

theorem exportCommitment (h : s.WrittenAt p t) : t.exportCommitment =
    s.exportCommitment + ((s.config p).exportShare (t.record p).committed - (s.config p).exportShare (s.record p).committed) := by
  rw [State.exportCommitment, portSum_of_others (p := p) fun q other => by rw [h.config, h.record q other], h.config]
  rfl

/-- What fits a port does not depend on what it has been granted already (R116). -/
theorem fit_eq (h : s.WrittenAt p t) (steerable : (s.config p).role.steerable = true) (d : Int) : t.fit p d = s.fit p d := by
  have site : t.site = s.site := State.site_of_frame h.frame
  have reference : t.reference = s.reference := State.reference_of_frame h.frame
  simp only [State.fit, h.netCommitment, h.exportCommitment, h.config, PortConfig.netShare_of_steerable steerable, site, reference]
  congr 2 <;> ring

end State.WrittenAt

/-! ### A walk over the ports -/

section Walk
variable {f : State → Port → State} (hf : ∀ (s : State) p, s.WrittenAt p (f s p))
include hf

theorem foldl_writtenAt_frame (ps : List Port) (s : State) : (ps.foldl f s).frame = s.frame :=
  State.frame_foldl (fun s p => (hf s p).frame) ps s

theorem foldl_not_mem {ps : List Port} {q : Port} (h : q ∉ ps) (s : State) :
    (ps.foldl f s).record q = s.record q ∧ (ps.foldl f s).link q = s.link q := by
  induction ps generalizing s with
  | nil => exact ⟨rfl, rfl⟩
  | cons p ps ih =>
    obtain ⟨other, later⟩ := not_or.1 (mt List.mem_cons.2 h)
    obtain ⟨record, link⟩ := ih later (f s p)
    exact ⟨record.trans ((hf s p).record q other), link.trans ((hf s p).link q other)⟩

/-- What a walk makes of a port is what its own step makes of it, on a state in which the ports before it stand as the walk leaves them and every other
port stands as before. -/
theorem foldl_split {earlier later : List Port} {p : Port} (once : (earlier ++ p :: later).Nodup) (s : State) :
    ∃ u, u = earlier.foldl f s ∧ u.frame = s.frame ∧ u.record p = s.record p ∧ u.link p = s.link p ∧
      (∀ q, u.record q = if q ∈ earlier then ((earlier ++ p :: later).foldl f s).record q else s.record q) ∧
      ((earlier ++ p :: later).foldl f s).record p = (f u p).record p ∧ ((earlier ++ p :: later).foldl f s).link p = (f u p).link p := by
  obtain ⟨_, tail, disjoint⟩ := List.nodup_append.1 once
  obtain ⟨not_later, _⟩ := List.nodup_cons.1 tail
  have not_earlier : p ∉ earlier := fun mem => disjoint p mem p List.mem_cons_self rfl
  have whole : (earlier ++ p :: later).foldl f s = later.foldl f (f (earlier.foldl f s) p) := by rw [List.foldl_append]; rfl
  obtain ⟨record, link⟩ := foldl_not_mem hf not_earlier s
  obtain ⟨record', link'⟩ := foldl_not_mem hf not_later (f (earlier.foldl f s) p)
  refine ⟨_, rfl, foldl_writtenAt_frame hf earlier s, record, link, fun q => ?_, whole ▸ record', whole ▸ link'⟩
  split
  case isTrue mem =>
    have other : q ∉ p :: later := fun tail => disjoint q mem q tail rfl
    rw [List.foldl_append, (foldl_not_mem hf other _).1]
  case isFalse away => exact (foldl_not_mem hf away s).1

/-- Where a port's step looks at nothing but its own record and link and the rest of the part, a walk makes of the port what that step makes of it at the
start. -/
theorem foldl_own {ps : List Port} (once : ps.Nodup) {p : Port} (mem : p ∈ ps) (s : State) {r : PortRecord} {l : LinkPort}
    (own : ∀ u : State, u.frame = s.frame → u.record p = s.record p → u.link p = s.link p → (f u p).record p = r ∧ (f u p).link p = l) :
    (ps.foldl f s).record p = r ∧ (ps.foldl f s).link p = l := by
  obtain ⟨earlier, later, rfl⟩ := List.append_of_mem mem
  obtain ⟨u, _, frame, record, link, _, written, linked⟩ := foldl_split hf once s
  obtain ⟨isRecord, isLink⟩ := own u frame record link
  exact ⟨written.trans isRecord, linked.trans isLink⟩

end Walk

/-! ### Grants -/

/-- `t` is `s` after grants that fit: nothing but records and links is written, no committed value falls, N exceeds R and X exceeds E only where they did. -/
structure State.Granted (s t : State) : Prop where
  frame : t.frame = s.frame
  committed : ∀ p, (s.record p).committed ≤ (t.record p).committed
  net : t.netCommitment ≤ max s.netCommitment s.reference
  exported : t.exportCommitment ≤ max s.exportCommitment s.site.exportLimit

namespace State.Granted
variable {s t u : State}

theorem refl (s : State) : s.Granted s := ⟨rfl, fun _ => le_refl _, le_max_left _ _, le_max_left _ _⟩

theorem trans (h : s.Granted t) (k : t.Granted u) : s.Granted u where
  frame := k.frame.trans h.frame
  committed p := (h.committed p).trans (k.committed p)
  net := k.net.trans (max_le h.net ((State.reference_of_frame h.frame).symm ▸ le_max_right _ _))
  exported := k.exported.trans (max_le h.exported ((State.site_of_frame h.frame).symm ▸ le_max_right _ _))

/-- Records written with their committed values as they were. -/
theorem of_same (frame : t.frame = s.frame) (same : ∀ p, (t.record p).committed = (s.record p).committed) : s.Granted t where
  frame := frame
  committed p := (same p).ge
  net := le_max_of_le_left (portSum_le fun p => by rw [same, State.config_of_frame frame])
  exported := le_max_of_le_left (portSum_le fun p => by rw [same, State.config_of_frame frame])

/-- One port granted what fits (R111, R116). -/
theorem of_fit {p : Port} (h : s.WrittenAt p t) {d : Int} (rises : (s.record p).committed ≤ (t.record p).committed)
    (fits : (t.record p).committed ≤ s.fit p d) : s.Granted t where
  frame := h.frame
  committed q := by
    by_cases same : q = p
    · subst same; exact rises
    · rw [h.record q same]
  net := by
    rw [h.netCommitment]
    simp only [State.fit, PortConfig.netShare] at fits ⊢
    split <;> omega
  exported := by
    rw [h.exportCommitment]
    have share := (s.config p).exportShare_le (s.record p).committed (t.record p).committed
    simp only [State.fit] at fits
    omega

theorem foldl {α : Type} {f : State → α → State} (hf : ∀ (s : State) a, s.Granted (f s a)) (as : List α) (s : State) : s.Granted (as.foldl f s) := by
  induction as generalizing s with
  | nil => exact refl s
  | cons a as ih => exact (hf s a).trans (ih (f s a))

/-- Grants leave less room for a port that has had none of them (R116). -/
theorem fit_le (h : s.Granted t) {p : Port} (same : (t.record p).committed = (s.record p).committed) (d : Int) : t.fit p d ≤ s.fit p d := by
  have site : t.site = s.site := State.site_of_frame h.frame
  have reference : t.reference = s.reference := State.reference_of_frame h.frame
  have net : s.netCommitment ≤ t.netCommitment := portSum_le fun q => by
    rw [State.config_of_frame h.frame]; exact PortConfig.netShare_mono _ (h.committed q)
  have exported : s.exportCommitment ≤ t.exportCommitment := portSum_le fun q => by
    rw [State.config_of_frame h.frame]; exact PortConfig.exportShare_mono _ (h.committed q)
  simp only [State.fit, same, site, reference, State.config_of_frame h.frame]
  omega

end State.Granted

/-- The sums look at nothing but committed values and the port table (R110). -/
theorem State.netCommitment_congr {s t : State} (table : t.portTable = s.portTable)
    (same : ∀ q, (t.record q).committed = (s.record q).committed) : t.netCommitment = s.netCommitment :=
  portSum_congr fun q => by rw [same, State.config, table]; rfl

theorem State.exportCommitment_congr {s t : State} (table : t.portTable = s.portTable)
    (same : ∀ q, (t.record q).committed = (s.record q).committed) : t.exportCommitment = s.exportCommitment :=
  portSum_congr fun q => by rw [same, State.config, table]; rfl

/-- A staged raise that a walk of grants leaves has been tried at its port, and does not fit afterwards either (R116, R128). -/
theorem foldl_fit_le {f : State → Port → State} (hf : ∀ (s : State) p, s.WrittenAt p (f s p)) (grants : ∀ (s : State) p, s.Granted (f s p))
    {ps : List Port} (once : ps.Nodup) {p : Port} (mem : p ∈ ps) (s : State) {d : Int}
    (own : ∀ u : State, u.frame = s.frame → u.record p = s.record p → ((f u p).record p).staged = some d →
      ((f u p).record p).outstanding = none → ((f u p).record p).participation = .engaged → (f u p).fit p d ≤ ((f u p).record p).committed)
    (staged : ((ps.foldl f s).record p).staged = some d) (alone : ((ps.foldl f s).record p).outstanding = none)
    (engaged : ((ps.foldl f s).record p).participation = .engaged) : (ps.foldl f s).fit p d ≤ ((ps.foldl f s).record p).committed := by
  obtain ⟨earlier, later, rfl⟩ := List.append_of_mem mem
  obtain ⟨u, walked, frame, record, _, _, written, _⟩ := foldl_split hf once s
  rw [written] at staged alone engaged ⊢
  have rest : (f u p).Granted ((earlier ++ p :: later).foldl f s) := by
    rw [List.foldl_append, List.foldl_cons, ← walked]
    exact State.Granted.foldl grants later _
  exact (rest.fit_le (by rw [written]) d).trans (own u frame record staged alone engaged)

/-! ### A staged raise served -/

/-- A port without a staged raise, with a recall, or not ENGAGED is served nothing (R128). -/
theorem State.serveStaged_of_idle {s : State} {p : Port}
    (h : (s.record p).staged = none ∨ (s.record p).outstanding ≠ none ∨ (s.record p).participation ≠ .engaged) : s.serveStaged p = s := by
  unfold State.serveStaged
  simp only
  split
  · simp_all
  · rfl

section Served
variable {s : State} {p : Port} {d : Int} (staged : (s.record p).staged = some d) (alone : (s.record p).outstanding = none)
  (engaged : (s.record p).participation = .engaged)
include staged alone engaged

/-- A raise of which nothing fits is sent nothing (R128). -/
theorem State.serveStaged_of_no_room (room : s.fit p d ≤ (s.record p).committed) : s.serveStaged p = s := by
  simp [State.serveStaged, staged, alone, engaged, room.not_gt]

/-- A raise granted as far as it fits; granted in full it ends (R128). -/
theorem State.serveStaged_of_room (room : (s.record p).committed < s.fit p d) :
    (s.serveStaged p).record p =
      { s.record p with committed := s.fit p d, lastSent := some (s.fit p d), staged := if d ≤ s.fit p d then none else some d } ∧
    (s.serveStaged p).link p = (s.link p).enqueue (.limit .raise (s.fit p d) s.frameNumber) := by
  simp only [State.serveStaged, staged, alone, engaged, room, if_true]
  split <;> simp [staged, alone, engaged]

end Served

theorem State.fit_le (s : State) (p : Port) (d : Int) : s.fit p d ≤ d := min_le_left _ _

/-- Whatever a staged raise is granted fits. -/
theorem State.serveStaged_grants (s : State) (p : Port) : s.Granted (s.serveStaged p) := by
  have written := State.WrittenAt.serveStaged s p
  by_cases idle : (s.record p).staged = none ∨ (s.record p).outstanding ≠ none ∨ (s.record p).participation ≠ .engaged
  · rw [State.serveStaged_of_idle idle]; exact .refl s
  · obtain ⟨staged, alone, engaged⟩ := not_or.1 idle |>.imp_right not_or.1
    obtain ⟨d, staged⟩ := Option.ne_none_iff_exists'.1 staged
    rw [not_not] at alone engaged
    rcases Int.lt_or_le (s.record p).committed (s.fit p d) with room | full
    · obtain ⟨record, _⟩ := State.serveStaged_of_room staged alone engaged room
      refine .of_fit written (d := d) ?_ ?_ <;> rw [record]
      exact room.le
    · rw [State.serveStaged_of_no_room staged alone engaged full]; exact .refl s

/-- What stays staged at a served port does not fit any further (R128). -/
theorem State.serveStaged_fit_le {s : State} {p : Port} (steerable : (s.config p).role.steerable = true) {d : Int}
    (staged : ((s.serveStaged p).record p).staged = some d) (alone : ((s.serveStaged p).record p).outstanding = none)
    (engaged : ((s.serveStaged p).record p).participation = .engaged) :
    (s.serveStaged p).fit p d ≤ ((s.serveStaged p).record p).committed := by
  rw [(State.WrittenAt.serveStaged s p).fit_eq steerable]
  by_cases idle : (s.record p).staged = none ∨ (s.record p).outstanding ≠ none ∨ (s.record p).participation ≠ .engaged
  · rw [State.serveStaged_of_idle idle] at staged alone engaged
    simp [staged, alone, engaged] at idle
  · obtain ⟨some, no_recall, steered⟩ := not_or.1 idle |>.imp_right not_or.1
    obtain ⟨d', some⟩ := Option.ne_none_iff_exists'.1 some
    rw [not_not] at no_recall steered
    rcases Int.lt_or_le (s.record p).committed (s.fit p d') with room | full
    · obtain ⟨record, _⟩ := State.serveStaged_of_room some no_recall steered room
      rw [record] at staged ⊢
      have same : d' = d := by simp only at staged; split at staged <;> simp_all
      rw [same]
    · rw [State.serveStaged_of_no_room some no_recall steered full] at staged ⊢
      have same : d' = d := by rw [some] at staged; exact Option.some.inj staged
      rwa [← same]

/-! ### A budget release -/

/-- A sweep order names each port once (R95, R96). -/
theorem sweep_nodup {ps : List Port} (h : ps.Perm (List.finRange 12)) : ps.Nodup := h.nodup_iff.2 (List.nodup_finRange 12)

theorem sweep_mem {ps : List Port} (h : ps.Perm (List.finRange 12)) (p : Port) : p ∈ ps := h.mem_iff.2 (List.mem_finRange p)

theorem State.budgetRelease_grants (s : State) : s.Granted s.budgetRelease := State.Granted.foldl State.serveStaged_grants _ s

/-- Settles O39: a walk of served raises, each granted what fits on the state that the walk has reached. -/
theorem budgetReleaseGrantsWhatFits : Obligations.BudgetReleaseGrantsWhatFits := by
  have walked := State.WrittenAt.serveStaged
  refine ⟨fun s p => ⟨fun d staged alone engaged role => ?one, State.serveStaged_of_idle⟩, fun s sweep => ⟨?frame, ?net, ?exported, ?rises, ?idle, ?each, ?left⟩⟩
  case one =>
    have fit : s.fit p d = min d (if (s.config p).role = .cluster
        then min ((s.record p).committed + (s.reference - s.netCommitment))
          (max (s.record p).committed (s.config p).fallback + (s.site.exportLimit - s.exportCommitment))
        else min ((s.record p).committed + (s.reference - s.netCommitment))
          (max (s.record p).committed 0 + (s.site.exportLimit - s.exportCommitment))) := by
      rcases role with role | role <;> simp [State.fit, PortConfig.exportShare_eq, role]
    intro g
    have fit : g = s.fit p d := fit.symm
    clear_value g
    subst fit
    refine ⟨State.serveStaged_of_no_room staged alone engaged, fun room => ?_⟩
    obtain ⟨record, link⟩ := State.serveStaged_of_room staged alone engaged room
    exact ⟨record, link, fun q other => ⟨(walked s p).record q other, (walked s p).link q other⟩, State.eq_of_frame (walked s p).frame⟩
  case frame => exact State.eq_of_frame s.frame_budgetRelease
  case net => exact s.budgetRelease_grants.net
  case exported => exact s.budgetRelease_grants.exported
  case rises => exact s.budgetRelease_grants.committed
  case idle =>
    intro p idle
    refine foldl_own walked (sweep_nodup sweep.order) (sweep_mem sweep.order p) s fun u _ record link => ?_
    rw [State.serveStaged_of_idle (by rwa [record])]
    exact ⟨record, link⟩
  case each =>
    intro p d earlier later split staged alone engaged role r met share g
    have once := sweep_nodup sweep.order
    rw [split] at once
    obtain ⟨u, _, frame, record, link, others, written, linked⟩ := foldl_split walked once s
    rw [← split] at others written linked
    have fit : g = u.fit p d := by
      have table : u.portTable = met.portTable := State.portTable_of_frame frame
      have same (q : Port) : u.record q = met.record q :=
        (others q).trans (State.record_mapRecords s (fun q r => if q ∈ earlier then s.budgetRelease.record q else r) q).symm
      have shared : share = (s.config p).exportShare (s.record p).committed := by
        rcases role with role | role <;> simp [share, r, PortConfig.exportShare_eq, role]
      have site : u.site = s.site := State.site_of_frame frame
      have reference : u.reference = s.reference := State.reference_of_frame frame
      simp only [g, State.fit, record, shared, site, reference, State.config_of_frame frame, r,
        State.netCommitment_congr table fun q => by rw [same], State.exportCommitment_congr table fun q => by rw [same]]
    clear_value g
    subst fit
    have staged' : (u.record p).staged = some d := record ▸ staged
    have alone' : (u.record p).outstanding = none := record ▸ alone
    have engaged' : (u.record p).participation = .engaged := record ▸ engaged
    refine ⟨fun full => ?_, fun room => ?_⟩
    · rw [State.serveStaged_of_no_room staged' alone' engaged' (record ▸ full)] at written linked
      exact ⟨written.trans record, linked.trans link⟩
    · obtain ⟨granted, sent⟩ := State.serveStaged_of_room staged' alone' engaged' (record ▸ room)
      rw [record] at granted
      rw [link, State.frameNumber_of_frame frame] at sent
      exact ⟨written.trans granted, linked.trans sent⟩
  case left =>
    intro p d role staged alone engaged
    have steerable : (s.config p).role.steerable = true := (Role.steerable_iff _).2 role
    refine foldl_fit_le walked State.serveStaged_grants (sweep_nodup sweep.order) (sweep_mem sweep.order p) s (fun u frame _ => ?_) staged alone engaged
    exact State.serveStaged_fit_le (State.config_of_frame frame p ▸ steerable)

end Sys2Proof.Machine
end

section
/-! The emission of a GOVERNING frame, port by port (O38). -/

namespace Sys2Proof.Machine

/-! ### The two passes as walks over the ports -/

/-- The staged raises of the previous frame discarded (R129). -/
def State.unstaged (s : State) : State := s.mapRecords fun _ r => { r with staged := none }

@[simp] theorem State.record_unstaged (s : State) (p : Port) : s.unstaged.record p = { s.record p with staged := none } :=
  State.record_mapRecords s _ p

@[simp] theorem State.frame_unstaged (s : State) : s.unstaged.frame = s.frame := rfl
@[simp] theorem State.frameNumber_unstaged (s : State) : s.unstaged.frameNumber = s.frameNumber := rfl
@[simp] theorem State.link_unstaged (s : State) (p : Port) : s.unstaged.link p = s.link p := rfl

/-- A pass at a port by the class it has in `s`; a port not handed on is passed over (R107). -/
def State.passAt (s : State) (pass : State → Port × Class → State) (u : State) (p : Port) : State :=
  match (s.record p).classify with
  | none => u
  | some c => pass u (p, c)

theorem foldl_classified (s : State) (pass : State → Port × Class → State) (u : State) :
    s.classified.foldl pass u = s.sweepOrder.foldl (s.passAt pass) u := by
  unfold State.classified
  generalize s.sweepOrder = ps
  induction ps generalizing u with
  | nil => rfl
  | cons p ps ih =>
    unfold State.passAt at ih ⊢
    cases class_ : (s.record p).classify with
    | none => simp [class_, ih]
    | some c => simp [class_, ih]

/-- The state after the first pass (R115). -/
def State.firstPassed (s : State) : State := s.sweepOrder.foldl (s.unstaged.passAt State.firstPassAt) s.unstaged

theorem State.emitFrame_eq (s : State) : s.emitFrame = s.sweepOrder.foldl (s.unstaged.passAt State.secondPassAt) s.firstPassed := by
  unfold State.emitFrame State.firstPassed
  simp only
  rw [← State.unstaged, foldl_classified, foldl_classified]
  rfl

theorem State.passAt_writtenAt {pass : State → Port × Class → State} (hp : ∀ (u : State) p c, u.WrittenAt p (pass u (p, c))) (s u : State) (p : Port) :
    u.WrittenAt p (s.passAt pass u p) := by
  unfold State.passAt
  split
  exacts [.refl u p, hp u p _]

theorem State.passAt_first (s u : State) (p : Port) : u.WrittenAt p (s.passAt State.firstPassAt u p) :=
  s.passAt_writtenAt State.WrittenAt.firstPassAt u p

theorem State.passAt_second (s u : State) (p : Port) : u.WrittenAt p (s.passAt State.secondPassAt u p) :=
  s.passAt_writtenAt State.WrittenAt.secondPassAt u p

/-! ### The first pass at a port -/

/-- The first pass looks at nothing but the port's own record and link (R115). -/
theorem State.firstPassAt_congr {s u : State} {p : Port} (frame : u.frame = s.frame) (record : u.record p = s.record p)
    (link : u.link p = s.link p) (c : Class) :
    (u.firstPassAt (p, c)).record p = (s.firstPassAt (p, c)).record p ∧ (u.firstPassAt (p, c)).link p = (s.firstPassAt (p, c)).link p := by
  have number := State.frameNumber_of_frame frame
  have lower (d : Int) : (u.sendLower p d).record p = (s.sendLower p d).record p ∧ (u.sendLower p d).link p = (s.sendLower p d).link p := by
    simp [State.sendLower, record, link, number]
  have rewritten (r : PortRecord) (d : Int) : ((u.setRecord p r).sendLower p d).record p = ((s.setRecord p r).sendLower p d).record p ∧
      ((u.setRecord p r).sendLower p d).link p = ((s.setRecord p r).sendLower p d).link p := by
    simp [State.sendLower, link, number]
  have keep : (u.sendKeep p).record p = (s.sendKeep p).record p ∧ (u.sendKeep p).link p = (s.sendKeep p).link p := by
    simp [record, link, number]
  unfold State.firstPassAt State.openRecall
  simp only [record, number]
  split
  · exact rewritten _ _
  · split
    exacts [rewritten _ _, lower _]
  · exact rewritten _ _
  · exact rewritten _ _
  · exact keep
  · exact ⟨record, link⟩
  · exact keep
  · exact lower _

/-- The first pass changes no committed value. -/
theorem State.committed_firstPassAt (s : State) (p : Port) (c : Class) : ((s.firstPassAt (p, c)).record p).committed = (s.record p).committed := by
  unfold State.firstPassAt State.openRecall State.sendLower
  simp only
  split
  case h_2 => split <;> simp
  all_goals simp

theorem State.committed_passAt_first (s u : State) (p q : Port) :
    ((s.passAt State.firstPassAt u p).record q).committed = (u.record q).committed := by
  by_cases same : q = p
  · subst same
    unfold State.passAt
    split
    exacts [rfl, State.committed_firstPassAt u q _]
  · rw [(s.passAt_first u p).record q same]

theorem State.committed_firstPassed (s : State) (p : Port) : (s.firstPassed.record p).committed = (s.record p).committed := by
  have walked (ps : List Port) (u : State) :
      ((ps.foldl (s.unstaged.passAt State.firstPassAt) u).record p).committed = (u.record p).committed := by
    induction ps generalizing u with
    | nil => rfl
    | cons q ps ih => rw [List.foldl_cons, ih, State.committed_passAt_first]
  exact (walked _ _).trans (by simp)

theorem State.frame_firstPassed (s : State) : s.firstPassed.frame = s.frame :=
  (foldl_writtenAt_frame s.unstaged.passAt_first s.sweepOrder s.unstaged).trans s.frame_unstaged

theorem State.firstPassed_grants (s : State) : s.Granted s.firstPassed := .of_same s.frame_firstPassed s.committed_firstPassed

/-- What the first pass makes of a port, by its class (R115). -/
theorem State.firstPassed_at {s : State} (sweep : s.sweepOrder.Perm (List.finRange 12)) (p : Port) :
    s.firstPassed.record p = (s.unstaged.passAt State.firstPassAt s.unstaged p).record p ∧
      s.firstPassed.link p = (s.unstaged.passAt State.firstPassAt s.unstaged p).link p := by
  refine foldl_own s.unstaged.passAt_first (sweep_nodup sweep) (sweep_mem sweep p) s.unstaged fun u frame record link => ?_
  unfold State.passAt
  split
  exacts [⟨record, link⟩, State.firstPassAt_congr frame record link _]

/-! ### The second pass at a port -/

theorem State.grantRaise_grants (s : State) (p : Port) (d : Int) : s.Granted (s.grantRaise p d) := by
  have written := State.WrittenAt.grantRaise s p d
  rcases Int.lt_or_le (s.record p).committed (s.fit p d) with room | full
  · have granted : ((s.grantRaise p d).record p).committed = s.fit p d := by
      simp only [State.grantRaise, room, if_true]
      split <;> simp
    exact .of_fit written (granted ▸ room.le) granted.le
  · refine .of_same written.frame fun q => ?_
    by_cases same : q = p
    · subst same
      simp only [State.grantRaise, full.not_gt, if_false]
      split <;> simp
    · rw [written.record q same]

theorem State.passAt_second_grants (s u : State) (p : Port) : u.Granted (s.passAt State.secondPassAt u p) := by
  unfold State.passAt
  split
  · exact .refl u
  · unfold State.secondPassAt
    split
    exacts [u.grantRaise_grants p _, .refl u]

theorem State.emitFrame_grants (s : State) : s.Granted s.emitFrame := by
  rw [s.emitFrame_eq]
  exact s.firstPassed_grants.trans (State.Granted.foldl s.unstaged.passAt_second_grants _ _)

/-- The record and the link of a raise that fits in part, in full, or not at all (R116, R117). -/
theorem State.grantRaise_at (s : State) (p : Port) (d : Int) :
    (s.fit p d ≤ (s.record p).committed → (s.record p).committed < d →
      (s.grantRaise p d).record p = { s.record p with staged := some d, lastSent := some (s.record p).committed } ∧
      (s.grantRaise p d).link p = (s.link p).enqueue (.limit .keep (s.record p).committed s.frameNumber)) ∧
    ((s.record p).committed < s.fit p d → s.fit p d < d →
      (s.grantRaise p d).record p = { s.record p with committed := s.fit p d, staged := some d, lastSent := some (s.fit p d) } ∧
      (s.grantRaise p d).link p = (s.link p).enqueue (.limit .raise (s.fit p d) s.frameNumber)) ∧
    ((s.record p).committed < s.fit p d → d ≤ s.fit p d →
      (s.grantRaise p d).record p = { s.record p with committed := d, lastSent := some d } ∧
      (s.grantRaise p d).link p = (s.link p).enqueue (.limit .raise d s.frameNumber)) := by
  refine ⟨fun full above => ?_, fun room part => ?_, fun room whole => ?_⟩
  · simp [State.grantRaise, full.not_gt, show ¬d ≤ s.fit p d by omega]
  · simp [State.grantRaise, room, part.not_ge]
  · have all : s.fit p d = d := le_antisymm (s.fit_le p d) whole
    rw [all] at room
    simp [State.grantRaise, all, room]

/-- What a raise leaves staged does not fit any further (R117). -/
theorem State.grantRaise_fit_le {s : State} {p : Port} (steerable : (s.config p).role.steerable = true) {d d' : Int}
    (fresh : (s.record p).staged = none) (staged : ((s.grantRaise p d).record p).staged = some d') :
    (s.grantRaise p d).fit p d' ≤ ((s.grantRaise p d).record p).committed := by
  rw [(State.WrittenAt.grantRaise s p d).fit_eq steerable]
  have committed : s.fit p d ≤ ((s.grantRaise p d).record p).committed := by
    unfold State.grantRaise
    simp only
    split <;> split <;> simp <;> omega
  have same : d = d' := by
    simp only [State.grantRaise] at staged
    split at staged <;> split at staged <;> simp_all
  exact same ▸ committed

/-! ### The emission at a port -/

/-- A port that the second pass does not raise stands as the first pass leaves it. -/
theorem State.emitFrame_at_of_first {s : State} (sweep : s.sweepOrder.Perm (List.finRange 12)) {p : Port}
    (settled : ∀ d, (s.unstaged.record p).classify = some (.raise d) → (s.firstPassed.record p).outstanding ≠ none) :
    s.emitFrame.record p = (s.unstaged.passAt State.firstPassAt s.unstaged p).record p ∧
      s.emitFrame.link p = (s.unstaged.passAt State.firstPassAt s.unstaged p).link p := by
  obtain ⟨first, firstLink⟩ := State.firstPassed_at sweep p
  have second := foldl_own s.unstaged.passAt_second (sweep_nodup sweep) (sweep_mem sweep p) s.firstPassed (r := s.firstPassed.record p)
    (l := s.firstPassed.link p) fun u frame record link => by
      unfold State.passAt State.secondPassAt
      split
      · exact ⟨record, link⟩
      · simp only
        split
        case h_1 alone class_ => exact absurd (record ▸ alone) (settled _ class_)
        · exact ⟨record, link⟩
  rw [s.emitFrame_eq]
  exact ⟨second.1.trans first, second.2.trans firstLink⟩

theorem State.passAt_of_class {s u : State} {pass : State → Port × Class → State} {p : Port} {c : Class}
    (h : (s.record p).classify = some c) : s.passAt pass u p = pass u (p, c) := by
  rw [State.passAt, h]

theorem State.passAt_of_none {s u : State} {pass : State → Port × Class → State} {p : Port} (h : (s.record p).classify = none) :
    s.passAt pass u p = u := by
  rw [State.passAt, h]

/-- The first pass stages a raise only behind a recall (R115). -/
theorem State.staged_firstPassed {s : State} (sweep : s.sweepOrder.Perm (List.finRange 12)) {p : Port} (alone : (s.firstPassed.record p).outstanding = none) :
    (s.firstPassed.record p).staged = none := by
  rw [(State.firstPassed_at sweep p).1] at alone ⊢
  unfold State.passAt at alone ⊢
  split at alone
  · simp
  · unfold State.firstPassAt State.openRecall State.sendLower at alone ⊢
    simp only at alone ⊢
    split at alone
    case h_2 => split at alone <;> simp_all
    all_goals simp_all

/-- The classes of R106. -/
theorem PortRecord.classify_of_active {r : PortRecord} (active : r.participation = .engaged ∨ r.participation = .recalling) {d : Int}
    (desired : r.desired = some d) :
    r.classify = some (if d < r.committed then .lower d else if d = r.committed then .keep d else .raise d) := by
  unfold PortRecord.classify
  rcases active with active | active <;> simp only [active, desired] <;> split <;> [rfl; split <;> rfl; rfl; split <;> rfl]

theorem PortRecord.classify_of_undesired {r : PortRecord} (active : r.participation = .engaged ∨ r.participation = .recalling)
    (undesired : r.desired = none) : r.classify = none := by
  unfold PortRecord.classify
  rcases active with active | active <;> simp [active, undesired]

theorem PortRecord.classify_of_absent {r : PortRecord} (absent : r.participation = .absent) : r.classify = none := by
  simp [PortRecord.classify, absent]

theorem PortRecord.classify_of_stale {r : PortRecord} (stale : r.participation = .stale) : r.classify = some .stale := by
  simp [PortRecord.classify, stale]

section EmittedAt
variable {s : State} (sweep : s.sweepOrder.Perm (List.finRange 12)) {p : Port}
include sweep

/-- A port that is not handed on is sent nothing (R107). -/
theorem State.emitFrame_of_none (class_ : (s.unstaged.record p).classify = none) :
    s.emitFrame.record p = { s.record p with staged := none } ∧ s.emitFrame.link p = s.link p := by
  obtain ⟨record, link⟩ := State.emitFrame_at_of_first sweep (p := p) fun d raises => by rw [class_] at raises; cases raises
  rw [State.passAt_of_none class_] at record link
  exact ⟨record.trans (s.record_unstaged p), link⟩

/-- A port of any other class than a raise without a recall is sent what the first pass sends it (R115). -/
theorem State.emitFrame_of_class {c : Class} (class_ : (s.unstaged.record p).classify = some c)
    (settled : ∀ d, c = .raise d → (s.record p).outstanding ≠ none) :
    s.emitFrame.record p = (s.unstaged.firstPassAt (p, c)).record p ∧ s.emitFrame.link p = (s.unstaged.firstPassAt (p, c)).link p := by
  have passed := State.emitFrame_at_of_first sweep (p := p) fun d raises => by
    rw [class_] at raises
    obtain ⟨u, recalled⟩ := Option.ne_none_iff_exists'.1 (settled d (Option.some.inj raises))
    rw [(State.firstPassed_at sweep p).1, State.passAt_of_class class_, Option.some.inj raises]
    simp [State.firstPassAt, State.sendLower, recalled]
  rwa [State.passAt_of_class class_] at passed

/-- A raise without a recall is granted on a state in which the ports before it stand as the emission leaves them (R117). -/
theorem State.emitFrame_of_raise {d : Int} (class_ : (s.unstaged.record p).classify = some (.raise d)) (alone : (s.record p).outstanding = none)
    {earlier later : List Port} (order : s.sweepOrder = earlier ++ p :: later) :
    ∃ u : State, u.frame = s.frame ∧ u.record p = { s.record p with staged := none } ∧ u.link p = s.link p ∧
      (∀ q, (u.record q).committed = if q ∈ earlier then (s.emitFrame.record q).committed else (s.record q).committed) ∧
      s.emitFrame.record p = (u.grantRaise p d).record p ∧ s.emitFrame.link p = (u.grantRaise p d).link p := by
  have once := sweep_nodup sweep
  rw [order] at once
  obtain ⟨u, _, frame, record, link, others, written, linked⟩ := foldl_split s.unstaged.passAt_second once s.firstPassed
  rw [← order, ← s.emitFrame_eq] at others written linked
  have first : s.firstPassed.record p = { s.record p with staged := none } ∧ s.firstPassed.link p = s.link p := by
    obtain ⟨firstRecord, firstLink⟩ := State.firstPassed_at sweep p
    rw [firstRecord, firstLink, State.passAt_of_class class_]
    simp [State.firstPassAt, alone]
  have raised : s.unstaged.passAt State.secondPassAt u p = u.grantRaise p d := by
    rw [State.passAt_of_class class_]
    simp [State.secondPassAt, record, first.1, alone]
  rw [raised] at written linked
  refine ⟨u, frame.trans s.frame_firstPassed, record.trans first.1, link.trans first.2, fun q => ?_, written, linked⟩
  rw [others q]
  split
  exacts [rfl, s.committed_firstPassed q]

/-- No raise that the emission leaves staged at an ENGAGED port fits any further (R117). -/
theorem State.emitFrame_fit_le (steerable : (s.config p).role.steerable = true) {d : Int} (staged : (s.emitFrame.record p).staged = some d)
    (alone : (s.emitFrame.record p).outstanding = none) (engaged : (s.emitFrame.record p).participation = .engaged) :
    s.emitFrame.fit p d ≤ (s.emitFrame.record p).committed := by
  rw [s.emitFrame_eq] at staged alone engaged ⊢
  refine foldl_fit_le s.unstaged.passAt_second s.unstaged.passAt_second_grants (sweep_nodup sweep) (sweep_mem sweep p) s.firstPassed
    (fun u frame record => ?_) staged alone engaged
  have unmoved (staged : (u.record p).staged = some d) (alone : (u.record p).outstanding = none) : u.fit p d ≤ (u.record p).committed := by
    rw [record] at staged alone
    rw [State.staged_firstPassed sweep alone] at staged
    cases staged
  have same : u.config p = s.config p := State.config_of_frame (frame.trans s.frame_firstPassed) p
  unfold State.passAt State.secondPassAt
  split
  · exact fun staged alone _ => unmoved staged alone
  · simp only
    split
    case h_1 recalled _ =>
      intro staged _ _
      refine State.grantRaise_fit_le (same ▸ steerable) ?_ staged
      rw [record] at recalled ⊢
      exact State.staged_firstPassed sweep recalled
    case h_2 => exact fun staged alone _ => unmoved staged alone

end EmittedAt

/-- Settles O38: two walks over the sweep order, the first by each port's class, the second granting what fits. -/
theorem emissionFollowsTheClasses : Obligations.EmissionFollowsTheClasses := by
  intro s inOrder
  have sweep := inOrder.order
  refine ⟨State.eq_of_frame s.frame_emitFrame, s.emitFrame_grants.net, s.emitFrame_grants.exported,
    fun p d role => State.emitFrame_fit_le sweep ((Role.steerable_iff _).2 role), fun p => ?_⟩
  refine ⟨fun absent => ?absent, fun stale alone => ?stale, fun stale u recalled => ?staleRecall, fun active undesired => ?undesired,
    fun active d desired => ?desired⟩
  case absent => exact State.emitFrame_of_none sweep (PortRecord.classify_of_absent (by simpa using absent))
  case undesired => exact State.emitFrame_of_none sweep (PortRecord.classify_of_undesired (by simpa using active) (by simpa using undesired))
  case stale =>
    have class_ : (s.unstaged.record p).classify = some .stale := PortRecord.classify_of_stale (by simpa using stale)
    obtain ⟨record, link⟩ := State.emitFrame_of_class sweep class_ nofun
    rw [record, link]
    simp [State.firstPassAt, alone]
  case staleRecall =>
    have class_ : (s.unstaged.record p).classify = some .stale := PortRecord.classify_of_stale (by simpa using stale)
    obtain ⟨record, link⟩ := State.emitFrame_of_class sweep class_ nofun
    rw [record, link]
    simp [State.firstPassAt, State.sendLower, recalled]
  case desired =>
    have class_ : (s.unstaged.record p).classify =
        some (if d < (s.record p).committed then .lower d else if d = (s.record p).committed then .keep d else .raise d) := by
      rw [PortRecord.classify_of_active (d := d) (by simpa using active) (by simpa using desired)]
      simp
    refine ⟨fun below alone => ?opened, fun below u recalled lower => ?lowered, fun below u recalled stands => ?stands, fun above u recalled => ?behind,
      fun level alone => ?level, fun above alone earlier later order => ?raise⟩
    case raise =>
      rw [if_neg above.not_gt, if_neg above.ne'] at class_
      obtain ⟨u, frame, record, link, committed, written, linked⟩ := State.emitFrame_of_raise sweep class_ alone order
      intro met share g
      have fit : g = u.fit p d := by
        have table : u.portTable = met.portTable := State.portTable_of_frame frame
        have same (q : Port) : (u.record q).committed = (met.record q).committed := by
          have standing : met.record q = if q ∈ earlier then s.emitFrame.record q else s.record q :=
            State.record_mapRecords s (fun q r => if q ∈ earlier then s.emitFrame.record q else r) q
          rw [standing, committed q]
          split <;> rfl
        have shared : share = (s.config p).exportShare (s.record p).committed := by simp [share, PortConfig.exportShare_eq]
        have site : u.site = s.site := State.site_of_frame frame
        have reference : u.reference = s.reference := State.reference_of_frame frame
        simp only [g, State.fit, record, shared, site, reference, State.config_of_frame frame, State.netCommitment_congr table same,
          State.exportCommitment_congr table same]
      clear_value g
      subst fit
      obtain ⟨keeps, parts, raises⟩ := u.grantRaise_at p d
      rw [written, linked, ← State.frameNumber_of_frame frame, ← link]
      rw [record] at keeps parts raises
      exact ⟨fun full => keeps full above, fun room part => parts room part, fun room whole => raises room whole⟩
    case level =>
      rw [if_neg level.not_lt, if_pos level] at class_
      obtain ⟨record, link⟩ := State.emitFrame_of_class sweep class_ nofun
      rw [record, link]
      simp [State.firstPassAt, alone]
    case behind =>
      rw [if_neg above.not_gt] at class_
      obtain ⟨record, link⟩ := State.emitFrame_of_class sweep class_ fun _ _ => by rw [recalled]; simp
      rw [record, link]
      split <;> simp [State.firstPassAt, State.sendLower, recalled]
    all_goals
      rw [if_pos below] at class_
      obtain ⟨record, link⟩ := State.emitFrame_of_class sweep class_ nofun
      rw [record, link]
    case opened => simp [State.firstPassAt, State.openRecall, State.sendLower, alone]
    case lowered => simp [State.firstPassAt, State.sendLower, recalled, lower]
    case stands => simp [State.firstPassAt, State.sendLower, recalled, stands.not_gt]

end Sys2Proof.Machine
end

section
/-! The divisions of a frame are exact (O34, O35), and the stages keep the reference in its range (O33). -/

namespace Sys2Proof.Machine

/-! ### One walk of a remainder -/

/-- A share that has room for one kilowatt more. -/
def Share.room (x : Share) : Bool := x.given < x.most

theorem walkOnce_of_nothing {left : Int} (h : left ≤ 0) (xs : List Share) : walkOnce left xs = (left, xs) := by
  induction xs with
  | nil => rfl
  | cons x xs ih => simp [walkOnce, h.not_gt, ih]

theorem walkOnce_cons_room {left : Int} {x : Share} (pos : 0 < left) (room : x.given < x.most) (xs : List Share) :
    walkOnce left (x :: xs) = ((walkOnce (left - 1) xs).1, { x with given := x.given + 1 } :: (walkOnce (left - 1) xs).2) := by
  simp [walkOnce, pos, room]

theorem walkOnce_cons_full {left : Int} {x : Share} (full : ¬(0 < left ∧ x.given < x.most)) (xs : List Share) :
    walkOnce left (x :: xs) = ((walkOnce left xs).1, x :: (walkOnce left xs).2) := by
  simp [walkOnce, full]

/-- A share after a walk: as it was, or one kilowatt more where it had room (R101). -/
def Share.Walked (x y : Share) : Prop :=
  y.port = x.port ∧ y.most = x.most ∧ (y.given = x.given ∨ x.given < x.most ∧ y.given = x.given + 1)

theorem walkOnce_walked (left : Int) (xs : List Share) : List.Forall₂ Share.Walked xs (walkOnce left xs).2 := by
  induction xs generalizing left with
  | nil => exact .nil
  | cons x xs ih =>
    by_cases h : 0 < left ∧ x.given < x.most
    · rw [walkOnce_cons_room h.1 h.2]
      exact .cons ⟨rfl, rfl, .inr ⟨h.2, rfl⟩⟩ (ih _)
    · rw [walkOnce_cons_full h]
      exact .cons ⟨rfl, rfl, .inl rfl⟩ (ih _)

@[simp] theorem sumGiven_cons (x : Share) (xs : List Share) : sumGiven (x :: xs) = x.given + sumGiven xs := rfl

/-- A walk spends what it no longer has left. -/
theorem sumGiven_walkOnce (left : Int) (xs : List Share) : sumGiven (walkOnce left xs).2 + (walkOnce left xs).1 = sumGiven xs + left := by
  induction xs generalizing left with
  | nil => rfl
  | cons x xs ih =>
    by_cases h : 0 < left ∧ x.given < x.most
    · have := ih (left - 1)
      simp only [walkOnce_cons_room h.1 h.2, sumGiven_cons]
      omega
    · have := ih left
      simp only [walkOnce_cons_full h, sumGiven_cons]
      omega

/-- With room for all of it, a walk leaves nothing. -/
theorem walkOnce_left {left : Int} {xs : List Share} (pos : 0 ≤ left) (fits : left ≤ xs.countP Share.room) : (walkOnce left xs).1 = 0 := by
  induction xs generalizing left with
  | nil => exact le_antisymm fits pos
  | cons x xs ih =>
    rw [List.countP_cons] at fits
    by_cases h : 0 < left ∧ x.given < x.most
    · rw [walkOnce_cons_room h.1 h.2]
      refine ih (by omega) ?_
      simp only [Share.room, h.2, decide_true, if_true] at fits
      push_cast at fits
      omega
    · rw [walkOnce_cons_full h]
      by_cases none : left = 0
      · rw [none, walkOnce_of_nothing le_rfl]
      · refine ih pos ?_
        have full : ¬x.given < x.most := fun room => h ⟨by omega, room⟩
        simpa [Share.room, full] using fits

/-- The kilowatts go to the earliest shares that have room. -/
theorem walkOnce_order {left : Int} {xs : List Share} {i j : Nat} {xi xj yi yj : Share} (before : i < j) (hxi : xs[i]? = some xi)
    (hxj : xs[j]? = some xj) (hyi : (walkOnce left xs).2[i]? = some yi) (hyj : (walkOnce left xs).2[j]? = some yj)
    (room : xi.given < xi.most) (more : yj.given = xj.given + 1) : yi.given = xi.given + 1 := by
  induction xs generalizing left i j with
  | nil => cases hxi
  | cons x xs ih =>
    obtain ⟨j, rfl⟩ : ∃ k, j = k + 1 := ⟨j - 1, by omega⟩
    by_cases h : 0 < left ∧ x.given < x.most
    · rw [walkOnce_cons_room h.1 h.2] at hyi hyj
      cases i with
      | zero => cases hxi; cases hyi; rfl
      | succ i => exact ih (by omega) hxi hxj hyi hyj
    · rw [walkOnce_cons_full h] at hyi hyj
      cases i with
      | zero =>
        cases hxi
        have nothing : left ≤ 0 := by
          by_contra pos
          exact h ⟨by omega, room⟩
        rw [walkOnce_of_nothing nothing] at hyj
        have same : xj = yj := Option.some.inj (hxj.symm.trans hyj)
        rw [same] at more
        omega
      | succ i => exact ih (by omega) hxi hxj hyi hyj

/-! ### What floors leave -/

section Floors
variable {α : Type} (ms : List α) (w : α → Int) (amount total : Int)

theorem sum_floor_add_mod :
    total * (ms.map fun m => amount * w m / total).sum + (ms.map fun m => amount * w m % total).sum = amount * (ms.map w).sum := by
  induction ms with
  | nil => simp
  | cons m ms ih =>
    simp only [List.map_cons, List.sum_cons]
    have := Int.mul_ediv_add_emod (amount * w m) total
    linear_combination ih + this

theorem sum_mod_nonneg (pos : 0 < total) : 0 ≤ (ms.map fun m => amount * w m % total).sum :=
  List.sum_nonneg fun x mem => by
    obtain ⟨m, _, rfl⟩ := List.mem_map.1 mem
    exact Int.emod_nonneg _ pos.ne'

theorem sum_mod_le (pos : 0 < total) :
    (ms.map fun m => amount * w m % total).sum ≤ total * (ms.countP fun m => amount * w m % total ≠ 0) := by
  induction ms with
  | nil => simp
  | cons m ms ih =>
    rw [List.map_cons, List.sum_cons, List.countP_cons]
    have below := Int.emod_lt_of_pos (amount * w m) pos
    by_cases zero : amount * w m % total = 0
    · simp only [zero, ne_eq, not_true_eq_false, decide_false, Bool.false_eq_true, if_false, add_zero] at ih ⊢
      omega
    · simp only [ne_eq, zero, not_false_eq_true, decide_true, if_true] at ih ⊢
      push_cast
      linarith

end Floors

/-- Floors of an amount by weight leave a remainder that is not negative and no greater than the number of shares with room, where a share that its floor
falls short of has room. -/
theorem floors_left {α : Type} {ms : List α} {w base : α → Int} {share : α → Share} {amount total : Int} (sum : (ms.map w).sum = total)
    (pos : 0 < total) (given : ∀ m, (share m).given = base m + amount * w m / total)
    (room : ∀ m ∈ ms, amount * w m % total ≠ 0 → (share m).given < (share m).most) :
    0 ≤ (ms.map base).sum + amount - sumGiven (ms.map share) ∧
      (ms.map base).sum + amount - sumGiven (ms.map share) ≤ (ms.map share).countP Share.room := by
  have spent : sumGiven (ms.map share) = (ms.map base).sum + (ms.map fun m => amount * w m / total).sum := by
    rw [sumGiven, List.map_map, ← List.sum_map_add]
    exact congrArg List.sum (List.map_congr_left fun m _ => given m)
  have exact_ := sum_floor_add_mod ms w amount total
  have low := sum_mod_nonneg ms w amount total pos
  have high := sum_mod_le ms w amount total pos
  have count : ms.countP (fun m => amount * w m % total ≠ 0) ≤ (ms.map share).countP Share.room := by
    rw [List.countP_map]
    exact List.countP_mono_left fun m mem short => by simpa [Share.room] using room m mem (by simpa using short)
  have left : total * (amount - (ms.map fun m => amount * w m / total).sum) = (ms.map fun m => amount * w m % total).sum := by
    rw [sum] at exact_
    linarith
  rw [spent]
  constructor
  · have := nonneg_of_mul_nonneg_right (left ▸ low) pos
    omega
  · have := le_of_mul_le_mul_left (left ▸ high) pos
    omega

/-! ### Divisions -/

/-- A remainder walked over the shares `share` of the members, with room for all of it: each share its start or one kilowatt more, the extra ones to the
earliest that have room. -/
theorem walkOnce_divides {α : Type} {ms : List α} {share : α → Share} {left : Int} (pos : 0 ≤ left)
    (fits : left ≤ (ms.map share).countP Share.room) (within : ∀ m ∈ ms, (share m).given ≤ (share m).most) :
    sumGiven (walkOnce left (ms.map share)).2 = sumGiven (ms.map share) + left ∧
      List.Forall₂ (fun m y => y.port = (share m).port ∧ (y.given = (share m).given ∨ y.given = (share m).given + 1) ∧
        y.given ≤ (share m).most) ms (walkOnce left (ms.map share)).2 ∧
      ∀ (i j : Nat) (mi mj : α) (yi yj : Share), i < j → ms[i]? = some mi → ms[j]? = some mj →
        (walkOnce left (ms.map share)).2[i]? = some yi → (walkOnce left (ms.map share)).2[j]? = some yj →
        (share mi).given < (share mi).most → yj.given = (share mj).given + 1 → yi.given = (share mi).given + 1 := by
  refine ⟨?_, ?_, fun i j mi mj yi yj before hmi hmj hyi hyj => ?_⟩
  · have spent := sumGiven_walkOnce left (ms.map share)
    rwa [walkOnce_left pos fits, add_zero] at spent
  · have walked := List.forall₂_map_left_iff.1 (walkOnce_walked left (ms.map share))
    refine ((List.forall₂_and_left _ _).2 ⟨within, walked⟩).imp fun m y h => ?_
    obtain ⟨start, port, most, given⟩ := h
    exact ⟨port, by omega, by omega⟩
  · exact walkOnce_order before (by rw [List.getElem?_map, hmi]; rfl) (by rw [List.getElem?_map, hmj]; rfl) hyi hyj

theorem walkAgain_of_fits {left : Int} {xs : List Share} (pos : 0 ≤ left) (fits : left ≤ xs.countP Share.room) :
    walkAgain left.toNat left xs = (walkOnce left xs).2 := by
  cases n : left.toNat with
  | zero =>
    rw [show left = 0 by omega, walkOnce_of_nothing le_rfl]
    rfl
  | succ n =>
    have nothing (m : Nat) (ys : List Share) : walkAgain m 0 ys = ys := by cases m <;> simp [walkAgain]
    simp [walkAgain, show 0 < left by omega, walkOnce_left pos fits, nothing]

/-- A proportional share is no more than its weight where the amount is no more than the total. -/
theorem floor_le_weight {a w t : Int} (pos : 0 < t) (le : a ≤ t) (weight : 0 ≤ w) : a * w / t ≤ w :=
  Int.ediv_le_of_le_mul pos (by nlinarith)

theorem floor_lt_weight {a w t : Int} (pos : 0 < t) (le : a ≤ t) (weight : 0 ≤ w) (short : a * w % t ≠ 0) : a * w / t < w := by
  refine lt_of_le_of_ne (floor_le_weight pos le weight) fun same => short ?_
  have whole := Int.mul_ediv_add_emod (a * w) t
  have below := Int.emod_nonneg (a * w) pos.ne'
  rw [same] at whole
  nlinarith

/-- Settles O35: what the floors leave is walked once, since every share that its floor falls short of has room. -/
theorem storageDivisionIsExact : Obligations.StorageDivisionIsExact := by
  intro amount members pos weights total le
  have total_pos : 0 < total := pos.trans_le le
  have left := floors_left (ms := members) (w := Prod.snd) (base := fun _ => 0) (amount := amount) (total := total)
    (share := fun m => { port := m.1, given := amount * m.2 / total, most := m.2 }) rfl total_pos (fun m => by simp)
    fun m mem short => floor_lt_weight total_pos le (weights m mem) short
  simp only [List.map_const', List.sum_replicate, smul_zero, zero_add] at left
  obtain ⟨low, high⟩ := left
  obtain ⟨sum, each, order⟩ := walkOnce_divides low high fun m mem => floor_le_weight total_pos le (weights m mem)
  have divides : divideAmong amount members = _ := walkAgain_of_fits low high
  rw [divides]
  refine ⟨?_, ?_, order⟩
  · exact sum.trans (by ring)
  · refine ((List.forall₂_and_left _ _).2 ⟨weights, each⟩).imp fun m x h => ?_
    obtain ⟨weight, port, given, most⟩ := h
    have floor := Int.ediv_nonneg (mul_nonneg pos.le weight) total_pos.le
    simp only at given
    exact ⟨port, by omega, most, given⟩

/-- Settles O34: the two divisions that leave a remainder are floors and a walk, and the other three give each cluster its value. -/
theorem budgetDivisionIsExact : Obligations.BudgetDivisionIsExact := by
  intro budget cs nonneg ranges shares F Q given divided each
  have assembled {floor most : ActiveCluster → Int} {ys : List Share} (sum : sumGiven ys = budget)
      (forall₂ : List.Forall₂ (fun c y => y.port = c.port ∧ (y.given = floor c ∨ y.given = floor c + 1) ∧ y.given ≤ most c) cs ys)
      (order : ∀ (i j : Nat) (ci cj : ActiveCluster) (yi yj : Share), i < j → cs[i]? = some ci → cs[j]? = some cj → ys[i]? = some yi →
        ys[j]? = some yj → floor ci < most ci → yj.given = floor cj + 1 → yi.given = floor ci + 1)
      (eq : shares = ys.map fun x => (x.port, x.given)) : divided floor most := by
    refine ⟨?_, ?_, fun i j ci cj xi xj before hci hcj hxi hxj => ?_⟩
    · simpa [given, eq, sumGiven, List.map_map, Function.comp_def] using sum
    · rw [eq]
      exact List.forall₂_map_right_iff.2 forall₂
    · rw [eq, List.getElem?_map] at hxi hxj
      obtain ⟨yi, hyi, rfl⟩ := Option.map_eq_some_iff.1 hxi
      obtain ⟨yj, hyj, rfl⟩ := Option.map_eq_some_iff.1 hxj
      exact order i j ci cj yi yj before hci hcj hyi hyj
  refine ⟨fun pos le => ?proportional, fun above full => ?full, fun above pos part => ?spare, fun above pos all => ?rated, fun none empty => ?empty⟩
  case proportional =>
    have left := floors_left (ms := cs) (w := ActiveCluster.forecast) (base := fun _ => 0) (amount := budget) (total := F)
      (share := fun c => { port := c.port, given := budget * c.forecast / F, most := c.forecast }) rfl pos (fun c => by simp)
      fun c mem short => floor_lt_weight pos le (ranges c mem).1 short
    simp only [List.map_const', List.sum_replicate, smul_zero, zero_add] at left
    obtain ⟨low, high⟩ := left
    obtain ⟨sum, forall₂, order⟩ := walkOnce_divides low high fun c mem => floor_le_weight pos le (ranges c mem).1
    refine assembled (sum.trans (by ring)) forall₂ order ?_
    have floors : floorShares budget F (cs.map fun c => (c.port, c.forecast)) =
        cs.map fun c => { port := c.port, given := budget * c.forecast / F, most := c.forecast : Share } := by
      simp [floorShares, List.map_map, Function.comp_def]
    show divideBudget budget cs = _
    rw [divideBudget, if_pos le, if_pos pos, divideProportional, floors]
  case full =>
    show divideBudget budget cs = _
    rw [divideBudget, if_neg above.not_ge, if_pos full]
  case rated =>
    show divideBudget budget cs = _
    rw [divideBudget, if_neg above.not_ge, if_neg pos.ne', if_pos all]
  case empty =>
    show divideBudget budget cs = _
    rw [divideBudget, if_pos (empty.trans none.symm).le, if_neg none.le.not_gt]
  case spare =>
    have unused (c : ActiveCluster) (mem : c ∈ cs) : 0 ≤ c.rated - c.forecast := by
      have := ranges c mem
      omega
    have left := floors_left (ms := cs) (w := fun c => c.rated - c.forecast) (base := ActiveCluster.forecast) (amount := budget - F) (total := Q)
      (share := fun c => { port := c.port, given := c.forecast + (budget - F) * (c.rated - c.forecast) / Q, most := c.rated }) rfl pos (fun c => rfl)
      fun c mem short => by
        have := floor_lt_weight pos part.le (unused c mem) short
        simp only
        omega
    rw [show (cs.map ActiveCluster.forecast).sum + (budget - F) = budget by ring] at left
    obtain ⟨low, high⟩ := left
    obtain ⟨sum, forall₂, order⟩ := walkOnce_divides low high fun c mem => by
      have := floor_le_weight pos part.le (unused c mem)
      simp only
      omega
    refine assembled (sum.trans (by ring)) forall₂ order ?_
    show divideBudget budget cs = _
    rw [divideBudget, if_neg above.not_ge, if_neg pos.ne', if_neg part.not_ge, divideSpare]

/-! ### The stages of the reference -/

section Stages
variable (profile : Profile) (E R T Dmax minW maxW : Int)

/-- Without a conflict the blended value is held within the bounds, and then to what can be delivered (R13, R14, R16, R17). -/
theorem stages_of_bounds (le : lowerBound profile R maxW ≤ upperBound profile E R minW) :
    stages profile E R T Dmax minW maxW =
      { reference := min (min (max (blend profile.blend R T) (lowerBound profile R maxW)) (upperBound profile E R minW)) (T + Dmax)
        conflict := none
        shortfall := if T + Dmax < lowerBound profile R maxW then some (lowerBound profile R maxW - (T + Dmax)) else none } := by
  simp only [stages, le.not_gt, if_false]
  split
  case isTrue fits => rw [min_eq_left fits, if_neg (by omega)]
  case isFalse short => rw [min_eq_right (by omega)]

/-- In a conflict the reference is held, and then to what can be delivered (R15 to R17). -/
theorem stages_of_conflict (lt : upperBound profile E R minW < lowerBound profile R maxW) :
    stages profile E R T Dmax minW maxW =
      { reference := min R (T + Dmax)
        conflict := some (lowerBound profile R maxW - upperBound profile E R minW)
        shortfall := if T + Dmax < R then some (R - (T + Dmax)) else none } := by
  have held : min (max (blend profile.blend R T) R) R = R := by omega
  simp only [stages, lt, if_true, held]
  split
  case isTrue fits => rw [min_eq_left fits, if_neg (by omega)]
  case isFalse short => rw [min_eq_right (by omega)]

end Stages

/-- Settles O33, by whether the bounds formed conflict. -/
theorem stagesBoundTheReference : Obligations.StagesBoundTheReference := by
  intro profile E R T Dmax minW maxW hR hRE hT hTE hD st hi lo
  have upper : upperBound profile E R minW = hi := min_assoc _ _ _
  have lower : lowerBound profile R maxW = lo := max_assoc _ _ _
  have upper_le : hi ≤ E := (min_le_right _ _).trans (min_le_right _ _)
  have lower_ge : 0 ≤ lo := le_max_of_le_right (le_max_right _ _)
  rcases Int.lt_or_le hi lo with lt | le
  · have eq : st = _ := stages_of_conflict profile E R T Dmax minW maxW (by rwa [upper, lower])
    rw [upper, lower] at eq
    rw [eq]
    refine ⟨by simp only; omega, fun le => absurd lt le.not_gt, fun _ => ⟨rfl, rfl, fun fits => if_neg fits.not_gt, fun short => ?_⟩,
      fun none => by simp at none⟩
    simp only [short, if_true, min_eq_right short.le]
  · have eq : st = _ := stages_of_bounds profile E R T Dmax minW maxW (by rwa [upper, lower])
    rw [upper, lower] at eq
    rw [eq]
    generalize blend profile.blend R T = B
    refine ⟨by simp only; omega, fun _ => ⟨rfl, rfl, fun fits => if_neg fits.not_gt, fun short => ?_⟩, fun lt => absurd lt le.not_gt, fun _ none => ?_⟩
    · rw [if_pos short, min_eq_right (by omega)]
    · simp only [ite_eq_right_iff, reduceCtorEq, imp_false] at none
      simp only
      omega

end Sys2Proof.Machine
end

section
/-! What an event can do to a port record, said once: the steps of a record, and the operations as chains of them that lift the exported commitment no
further than the fit rule allows. -/

namespace Sys2Proof.Machine

/-! ### The steps of a record -/

/-- An ENGAGED or RECALLING port. -/
def PortRecord.Active (r : PortRecord) : Prop := r.participation = .engaged ∨ r.participation = .recalling

theorem PortRecord.active_iff (r : PortRecord) : r.active = true ↔ r.Active := by
  simp [PortRecord.active, PortRecord.Active]

/-- The record of a port that returns after silence with the LIMIT it is sent (R122). -/
def PortRecord.returnedSent (r : PortRecord) (value : Int) : PortRecord :=
  { r.returned value with lastSent := some ((r.returned value).outstanding.elim value Recall.value) }

/-- One thing that an event can do to a record without raising what the port counts for; `D` says what may become a desired value. -/
inductive PortRecord.Step (c : PortConfig) (D : Int → Prop) (r : PortRecord) : PortRecord → Prop
  | heard : Step c D r { r with silence := 0 }
  | counters (y t : Nat) : Step c D r { r with yieldsRefused := y, recallTimeouts := t }
  | aged (n a : Nat) : Step c D r { r with silence := n, reportAge := a }
  | kept : Step c D r { r with lastSent := some r.committed }
  | lowered (u : Recall) (recalled : r.outstanding = some u) : Step c D r { r with lastSent := some u.value }
  | opened (d : Int) (n : FrameNo) (active : r.Active) (alone : r.outstanding = none) (desired : r.desired = some d)
      (below : d < r.committed) :
      Step c D r { r with outstanding := some ⟨d, n⟩, participation := .recalling, lastSent := some d }
  | deepened (d : Int) (u : Recall) (active : r.Active) (recalled : r.outstanding = some u) (desired : r.desired = some d)
      (below : d < u.value) : Step c D r { r with outstanding := some { u with value := d }, lastSent := some d }
  | unstaged : Step c D r { r with staged := none }
  | staged (d : Int) (active : r.Active) (desired : r.desired = some d) : Step c D r { r with staged := some d }
  | wanted (d : Option Int) (ok : ∀ v, d = some v → r.Active ∧ D v) : Step c D r { r with desired := d }
  | formed :
      Step c D r
        { r with
          storage :=
            { r.storage with
              dischargeAvailability := dischargeAvailability c r.storage
              chargeAvailability := chargeAvailability c r.storage } }
  | timedOut (recalling : r.participation = .recalling) : Step c D r (r.timedOut c)
  | silenced (can : r.canFallSilent = true) : Step c D r (r.silenced c)
  | joined : Step c D r (r.joined c)
  | left : Step c D r (r.left c)
  | fullyYielded (u : Recall) (v : Int) (recalled : r.outstanding = some u) (under : c.clampValue v ≤ u.value) :
      Step c D r (r.fullyYielded (c.clampValue v))
  | partlyYielded (u : Recall) (v : Int) (recalled : r.outstanding = some u) (above : u.value < c.clampValue v)
      (under : c.clampValue v ≤ r.committed) : Step c D r (r.partlyYielded c (c.clampValue v))
  | clusterStored (o a d : Int) : Step c D r (r.storeCluster c o a d)
  | storageStored (a d e k m : Int) : Step c D r (r.storeStorage c a d e k m)
  | returned (v : Int) (silent : r.silent = true) (value : v = r.committed ∨ v = c.clampValue (min (r.applied c) r.committed)) :
      Step c D r (r.returnedSent v)
  | overrun (b : Bool) (n : Nat) : Step c D r { r with overrun := b, overrunRun := n }

/-- A raise that the fit rule grants to an ENGAGED or RECALLING port without a recall, up to what it desires or has staged (R116, R128). -/
inductive PortRecord.Grant (r : PortRecord) : PortRecord → Prop
  | granted (g d : Int) (active : r.Active) (alone : r.outstanding = none) (above : r.committed < g) (upTo : g ≤ d)
      (source : r.desired = some d ∨ r.staged = some d) : Grant r { r with committed := g, lastSent := some g }

/-- A chain of steps. -/
def PortRecord.Steps (c : PortConfig) (D : Int → Prop) : PortRecord → PortRecord → Prop := Relation.ReflTransGen (PortRecord.Step c D)

/-- A chain of steps and granted raises. -/
def PortRecord.Leads (c : PortConfig) (D : Int → Prop) : PortRecord → PortRecord → Prop :=
  Relation.ReflTransGen fun r r' => PortRecord.Step c D r r' ∨ PortRecord.Grant r r'

theorem PortRecord.Step.steps {c : PortConfig} {D : Int → Prop} {r r' : PortRecord} (h : PortRecord.Step c D r r') : PortRecord.Steps c D r r' := .single h

theorem PortRecord.Steps.leads {c : PortConfig} {D : Int → Prop} {r r' : PortRecord} (h : PortRecord.Steps c D r r') : PortRecord.Leads c D r r' :=
  Relation.ReflTransGen.mono (fun _ _ => Or.inl) _ _ h

/-- The figures of a port table entry are not negative (R139). -/
def PortConfig.FiguresFit (c : PortConfig) : Prop := 0 ≤ c.rated ∧ 0 ≤ c.fallback ∧ 0 ≤ c.ratedCharge

/-- At rest a port counts for the least it can (R108, R110). -/
theorem PortConfig.exportShare_rest_le (c : PortConfig) (v : Int) : c.exportShare c.rest ≤ c.exportShare v := by
  rw [c.exportShare_eq, c.exportShare_eq]
  cases role : c.role <;> simp [PortConfig.rest, role]

theorem PortConfig.exportShare_silentValue (c : PortConfig) (v : Int) : c.exportShare (c.silentValue v) = c.exportShare v := by
  rw [c.exportShare_eq, c.exportShare_eq, PortConfig.silentValue]
  cases role : c.role <;> simp [PortConfig.rest, role]

/-- Clamping into the port's range never counts for more (R109, R110). -/
theorem PortConfig.exportShare_clampValue_le {c : PortConfig} (fit : c.FiguresFit) (v : Int) : c.exportShare (c.clampValue v) ≤ c.exportShare v := by
  obtain ⟨_, fallback, charge⟩ := fit
  rw [c.exportShare_eq, c.exportShare_eq, PortConfig.clampValue, clamp]
  cases role : c.role <;> simp only [PortConfig.least, role, reduceCtorEq, if_true, if_false, le_refl] <;> split_ifs <;> omega

/-- An outstanding recall lies below the committed value (R109). -/
def PortRecord.Below (r : PortRecord) : Prop := ∀ u, r.outstanding = some u → u.value < r.committed

/-- The return after silence: a recall that stands below the new committed value stands on, and any other ends (R122). -/
theorem PortRecord.returned_cases (r : PortRecord) (v : Int) :
    (∃ u, r.outstanding = some u ∧ u.value < v ∧
      r.returned v = { r with committed := v, cause := none, participation := .recalling, outstanding := some u }) ∨
    r.returned v = { r with committed := v, cause := none, participation := .engaged, outstanding := none } := by
  cases recalled : r.outstanding with
  | none => exact .inr (by simp [PortRecord.returned, recalled])
  | some u =>
    by_cases stands : u.value < v
    · exact .inl ⟨u, rfl, stands, by simp [PortRecord.returned, recalled, stands]⟩
    · exact .inr (by simp [PortRecord.returned, recalled, stands])

theorem PortRecord.below_returned (r : PortRecord) (v : Int) : (r.returnedSent v).Below := by
  rcases r.returned_cases v with ⟨u, _, stands, eq⟩ | eq <;> rw [PortRecord.returnedSent, eq]
  · rintro u' ⟨⟩; exact stands
  · rintro u ⟨⟩

theorem PortRecord.Step.below {c : PortConfig} {D : Int → Prop} {r r' : PortRecord} (h : PortRecord.Step c D r r') (below : r.Below) :
    r'.Below := by
  cases h with
  | opened d n _ _ _ lower => rintro u ⟨⟩; exact lower
  | deepened d u _ recalled _ lower => rintro u' ⟨⟩; exact lower.trans (below u recalled)
  | timedOut =>
    intro u recalled
    have := below u recalled
    simp only [PortRecord.timedOut]
    split <;> omega
  | silenced =>
    intro u recalled
    have := below u recalled
    simp only [PortRecord.silenced, PortConfig.silentValue]
    omega
  | joined => rintro u ⟨⟩
  | left => rintro u ⟨⟩
  | fullyYielded => rintro u ⟨⟩
  | partlyYielded u v recalled above =>
    intro u' recalled'
    have same : u = u' := Option.some.inj (recalled.symm.trans recalled')
    subst same
    simp only [PortRecord.partlyYielded]
    split <;> omega
  | returned v => exact r.below_returned v
  | _ => exact below

theorem PortRecord.Grant.below {r r' : PortRecord} (h : PortRecord.Grant r r') : r'.Below := by
  obtain ⟨g, d, _, alone⟩ := h
  rintro u recalled
  rw [alone] at recalled
  cases recalled

theorem PortRecord.Leads.below {c : PortConfig} {D : Int → Prop} {r r' : PortRecord} (h : PortRecord.Leads c D r r') (below : r.Below) :
    r'.Below := by
  induction h with
  | refl => exact below
  | tail _ step ih => exact step.elim (fun step => step.below ih) fun grant => grant.below

/-- No step raises what a port counts for in the exported commitment. -/
theorem PortRecord.Step.exportShare_le {c : PortConfig} {D : Int → Prop} {r r' : PortRecord} (h : PortRecord.Step c D r r')
    (fit : c.FiguresFit) (below : r.Below) : c.exportShare r'.committed ≤ c.exportShare r.committed := by
  cases h with
  | timedOut =>
    rw [c.exportShare_eq, c.exportShare_eq, PortRecord.timedOut]
    split_ifs <;> simp_all
  | silenced => exact (c.exportShare_silentValue r.committed).le
  | joined => exact c.exportShare_rest_le _
  | left => exact c.exportShare_rest_le _
  | fullyYielded u v recalled under => exact c.exportShare_mono (under.trans (below u recalled).le)
  | partlyYielded u v recalled above under =>
    refine le_trans ?_ (c.exportShare_mono under)
    rw [c.exportShare_eq, c.exportShare_eq, PortRecord.partlyYielded]
    split_ifs <;> simp_all
  | returned v silent value =>
    rcases value with rfl | rfl
    · exact le_refl _
    · exact (PortConfig.exportShare_clampValue_le fit _).trans (c.exportShare_mono (min_le_right _ _))
  | _ => exact le_refl _

theorem PortRecord.Steps.exportShare_le {c : PortConfig} {D : Int → Prop} {r r' : PortRecord} (h : PortRecord.Steps c D r r')
    (fit : c.FiguresFit) (below : r.Below) : c.exportShare r'.committed ≤ c.exportShare r.committed := by
  induction h with
  | refl => exact le_refl _
  | tail steps step ih => exact (step.exportShare_le fit (PortRecord.Leads.below (PortRecord.Steps.leads steps) below)).trans ih

/-! ### Operations as chains of steps -/

/-- `t` is `s` with the port table and the site record as they were, each record led on by steps and grants, and the exported commitment above E only where
it was. -/
structure State.Moves (D : Port → Int → Prop) (s t : State) : Prop where
  table : t.portTable = s.portTable
  site : t.site = s.site
  records : ∀ p, PortRecord.Leads (s.config p) (D p) (s.record p) (t.record p)
  exported : s.TableInRange → (∀ p, (s.record p).Below) → t.exportCommitment ≤ max s.exportCommitment s.site.exportLimit

namespace State.Moves
variable {D : Port → Int → Prop} {s t u : State}

theorem config (h : s.Moves D t) (p : Port) : t.config p = s.config p := by rw [State.config, h.table]; rfl

theorem tableInRange (h : s.Moves D t) (fit : s.TableInRange) : t.TableInRange := fun p => by rw [h.config]; exact fit p

theorem trans (h : s.Moves D t) (k : t.Moves D u) : s.Moves D u where
  table := k.table.trans h.table
  site := k.site.trans h.site
  records p := (h.records p).trans (h.config p ▸ k.records p)
  exported fit below :=
    (k.exported (h.tableInRange fit) fun p => (h.records p).below (below p)).trans
      (max_le (h.exported fit below) (h.site ▸ le_max_right _ _))

/-- Records led on by steps alone. -/
theorem of_steps (table : t.portTable = s.portTable) (site : t.site = s.site)
    (steps : ∀ p, PortRecord.Steps (s.config p) (D p) (s.record p) (t.record p)) : s.Moves D t where
  table := table
  site := site
  records p := (steps p).leads
  exported fit below := le_max_of_le_left (portSum_le fun p => by
    have same : t.config p = s.config p := by rw [State.config, table]; rfl
    rw [same]
    exact (steps p).exportShare_le (fit p) (below p))

theorem of_records (table : t.portTable = s.portTable) (site : t.site = s.site) (records : ∀ p, t.record p = s.record p) : s.Moves D t :=
  of_steps table site fun p => by rw [records]; exact .refl

theorem refl (s : State) : s.Moves D s := of_records rfl rfl fun _ => rfl

/-- One port's record led on by steps. -/
theorem at_port {p : Port} (h : s.WrittenAt p t) (steps : PortRecord.Steps (s.config p) (D p) (s.record p) (t.record p)) : s.Moves D t :=
  of_steps (State.portTable_of_frame h.frame) (State.site_of_frame h.frame) fun q => by
    by_cases same : q = p
    · subst same; exact steps
    · rw [h.record q same]; exact .refl

/-- One port granted what fits. -/
theorem of_granted {p : Port} (h : s.WrittenAt p t) (granted : s.Granted t)
    (leads : PortRecord.Leads (s.config p) (D p) (s.record p) (t.record p)) : s.Moves D t where
  table := State.portTable_of_frame h.frame
  site := State.site_of_frame h.frame
  records q := by
    by_cases same : q = p
    · subst same; exact leads
    · rw [h.record q same]; exact .refl
  exported _ _ := granted.exported

theorem mapRecords {f : Port → PortRecord → PortRecord} (steps : ∀ p, PortRecord.Steps (s.config p) (D p) (s.record p) (f p (s.record p))) :
    s.Moves D (s.mapRecords f) :=
  of_steps rfl rfl fun p => by rw [State.record_mapRecords]; exact steps p

theorem foldl {α : Type} {f : State → α → State} (hf : ∀ (s : State) a, s.Moves D (f s a)) (as : List α) (s : State) : s.Moves D (as.foldl f s) := by
  induction as generalizing s with
  | nil => exact refl s
  | cons a as ih => exact (hf s a).trans (ih (f s a))

/-! ### What writes no record -/

variable (s)

theorem setLink (p : Port) (l : LinkPort) : s.Moves D (s.setLink p l) := of_records rfl rfl fun _ => rfl
theorem enqueue (p : Port) (m : Message) : s.Moves D (s.enqueue p m) := of_records rfl rfl fun _ => rfl
theorem ack (p : Port) (k : Byte) : s.Moves D (s.ack p k) := of_records rfl rfl fun _ => rfl
theorem nak (p : Port) (k : Byte) (r : NakReason) : s.Moves D (s.nak p k r) := of_records rfl rfl fun _ => rfl
theorem withdrawLimit (p : Port) : s.Moves D (s.withdrawLimit p) := of_records rfl rfl fun _ => rfl
theorem raise (n : Notice) : s.Moves D (s.raise n) := of_records rfl rfl fun _ => rfl
theorem raiseAll (ns : List Notice) : s.Moves D (s.raiseAll ns) := foldl (fun s n => raise s n) ns s
theorem changeMode (m : Mode) : s.Moves D (s.changeMode m) := by
  obtain ⟨l, eq⟩ := s.changeMode_eq m
  rw [eq]
  exact of_records rfl rfl fun _ => rfl

theorem acceptFrame (p : Port) : s.Moves D (s.acceptFrame p) :=
  of_steps (by simp) (by simp) fun q => by
    rw [State.record_acceptFrame]
    split
    case isTrue same => rw [same]; exact PortRecord.Step.heard.steps
    case isFalse => exact .refl

/-! ### LIMITs and budget releases -/

theorem sendKeep (p : Port) : s.Moves D (s.sendKeep p) :=
  at_port (.sendKeep s p) (by rw [State.record_sendKeep, if_pos rfl]; exact PortRecord.Step.kept.steps)

theorem sendLower {p : Port} {r : Recall} (recalled : (s.record p).outstanding = some r) : s.Moves D (s.sendLower p r.value) :=
  at_port (.sendLower s p _) (by rw [State.sendLower, State.record_sendLimit, if_pos rfl]; exact (PortRecord.Step.lowered r recalled).steps)

/-- A record written in a step. -/
theorem setRecord {p : Port} {r : PortRecord} (step : PortRecord.Step (s.config p) (D p) (s.record p) r) : s.Moves D (s.setRecord p r) :=
  at_port (.setRecord s p r) (by rw [State.record_setRecord, if_pos rfl]; exact step.steps)

theorem serveStaged (p : Port) : s.Moves D (s.serveStaged p) := by
  by_cases idle : (s.record p).staged = none ∨ (s.record p).outstanding ≠ none ∨ (s.record p).participation ≠ .engaged
  · rw [State.serveStaged_of_idle idle]; exact refl s
  · obtain ⟨some, alone, engaged⟩ := not_or.1 idle |>.imp_right not_or.1
    obtain ⟨d, staged⟩ := Option.ne_none_iff_exists'.1 some
    rw [not_not] at alone engaged
    rcases Int.lt_or_le (s.record p).committed (s.fit p d) with room | full
    · obtain ⟨record, _⟩ := State.serveStaged_of_room staged alone engaged room
      refine of_granted (.serveStaged s p) (s.serveStaged_grants p) ?_
      rw [record]
      have granted := PortRecord.Grant.granted (r := s.record p) (s.fit p d) d (.inl engaged) alone room (s.fit_le p d) (.inr staged)
      split
      · exact (Relation.ReflTransGen.single (.inr granted)).tail (.inl .unstaged)
      · rw [← staged]; exact .single (.inr granted)
    · rw [State.serveStaged_of_no_room staged alone engaged full]; exact refl s

theorem budgetRelease : s.Moves D s.budgetRelease := foldl (fun s p => serveStaged s p) _ s

theorem releaseIfFallen (p : Port) (was : Int) : s.Moves D (s.releaseIfFallen p was) := by
  unfold State.releaseIfFallen
  split
  exacts [budgetRelease s, refl s]

/-! ### The emission -/

end State.Moves

/-- A port that is handed on is STALE, or judged by what it desires (R106). -/
theorem PortRecord.classify_cases (r : PortRecord) :
    r.classify = none ∨ r.classify = some .stale ∨ ∃ d, r.Active ∧ r.desired = some d ∧
      (r.classify = some (.lower d) ∧ d < r.committed ∨ r.classify = some (.keep d) ∨ r.classify = some (.raise d) ∧ r.committed < d) := by
  by_cases active : r.Active
  · cases desired : r.desired with
    | none => exact .inl (PortRecord.classify_of_undesired active desired)
    | some d =>
      have class_ := PortRecord.classify_of_active active desired
      refine .inr (.inr ⟨d, active, rfl, ?_⟩)
      rcases lt_trichotomy d r.committed with below | level | above
      · exact .inl ⟨by rw [class_, if_pos below], below⟩
      · exact .inr (.inl (by rw [class_, if_neg level.not_lt, if_pos level]))
      · exact .inr (.inr ⟨by rw [class_, if_neg above.not_gt, if_neg above.ne'], above⟩)
  · cases part : r.participation with
    | absent => exact .inl (PortRecord.classify_of_absent part)
    | stale => exact .inr (.inl (PortRecord.classify_of_stale part))
    | engaged => exact absurd (.inl part) active
    | recalling => exact absurd (.inr part) active

/-- The first pass leads a port's record on by steps (R115). -/
theorem State.firstPassAt_steps (s : State) (p : Port) {D : Int → Prop} {c : Class} (class_ : (s.record p).classify = some c) :
    PortRecord.Steps (s.config p) D (s.record p) ((s.firstPassAt (p, c)).record p) := by
  have lowered (u : Recall) (recalled : (s.record p).outstanding = some u) :
      PortRecord.Steps (s.config p) D (s.record p) ((s.sendLower p u.value).record p) := by
    rw [State.sendLower, State.record_sendLimit, if_pos rfl]
    exact (PortRecord.Step.lowered u recalled).steps
  have kept : PortRecord.Steps (s.config p) D (s.record p) ((s.sendKeep p).record p) := by
    rw [State.record_sendKeep, if_pos rfl]
    exact PortRecord.Step.kept.steps
  have behind (d : Int) (u : Recall) (active : (s.record p).Active) (desired : (s.record p).desired = some d)
      (recalled : (s.record p).outstanding = some u) : PortRecord.Steps (s.config p) D (s.record p)
        (((s.setRecord p { s.record p with staged := some d }).sendLower p u.value).record p) := by
    rw [State.sendLower, State.record_sendLimit, if_pos rfl, State.record_setRecord, if_pos rfl]
    exact (PortRecord.Step.staged d active desired).steps.tail (.lowered u recalled)
  rcases (s.record p).classify_cases with none | stale | ⟨d, active, desired, ⟨lower, below⟩ | keep | ⟨raise, above⟩⟩
  · rw [none] at class_; cases class_
  · cases Option.some.inj (stale.symm.trans class_)
    cases recalled : (s.record p).outstanding with
    | none => simp only [State.firstPassAt, recalled]; exact kept
    | some u => simp only [State.firstPassAt, recalled]; exact lowered u recalled
  · cases Option.some.inj (lower.symm.trans class_)
    cases recalled : (s.record p).outstanding with
    | none =>
      simp only [State.firstPassAt, recalled, State.openRecall, State.sendLower, State.record_sendLimit, State.record_setRecord, if_true]
      exact (PortRecord.Step.opened d s.frameNumber active recalled desired below).steps
    | some u =>
      simp only [State.firstPassAt, recalled]
      split
      case isTrue deeper =>
        rw [State.sendLower, State.record_sendLimit, if_pos rfl, State.record_setRecord, if_pos rfl]
        exact (PortRecord.Step.deepened d u active recalled desired deeper).steps
      case isFalse => exact lowered u recalled
  · cases Option.some.inj (keep.symm.trans class_)
    cases recalled : (s.record p).outstanding with
    | none => simp only [State.firstPassAt, recalled]; exact kept
    | some u => simp only [State.firstPassAt, recalled]; simpa only [recalled] using behind d u active desired recalled
  · cases Option.some.inj (raise.symm.trans class_)
    cases recalled : (s.record p).outstanding with
    | none => simp only [State.firstPassAt, recalled]; exact .refl
    | some u => simp only [State.firstPassAt, recalled]; simpa only [recalled] using behind d u active desired recalled

/-- The second pass leads the record of a port it raises on by a step and a grant (R117). -/
theorem State.grantRaise_leads (s : State) (p : Port) {c : PortConfig} {D : Int → Prop} {d : Int} (active : (s.record p).Active)
    (alone : (s.record p).outstanding = none) (desired : (s.record p).desired = some d) (above : (s.record p).committed < d) :
    PortRecord.Leads c D (s.record p) ((s.grantRaise p d).record p) := by
  obtain ⟨none_fits, part, whole⟩ := s.grantRaise_at p d
  rcases Int.lt_or_le (s.record p).committed (s.fit p d) with room | full
  · have granted := PortRecord.Grant.granted (r := s.record p) (s.fit p d) d active alone room (s.fit_le p d) (.inl desired)
    rcases Int.lt_or_le (s.fit p d) d with partly | wholly
    · rw [(part room partly).1]
      refine (Relation.ReflTransGen.single (.inr granted)).tail (.inl (.staged d ?_ ?_))
      exacts [active, desired]
    · have all : s.fit p d = d := le_antisymm (s.fit_le p d) wholly
      rw [(whole room wholly).1]
      rw [all] at granted
      exact .single (.inr granted)
  · rw [(none_fits full above).1]
    exact (Relation.ReflTransGen.single (.inl (.staged d active desired))).tail (.inl .kept)

theorem State.Moves.emitFrame {D : Port → Int → Prop} {s : State} (sweep : s.sweepOrder.Perm (List.finRange 12)) : s.Moves D s.emitFrame where
  table := State.portTable_of_frame s.frame_emitFrame
  site := State.site_of_frame s.frame_emitFrame
  exported _ _ := s.emitFrame_grants.exported
  records p := by
    have unstaged : PortRecord.Steps (s.config p) (D p) (s.record p) (s.unstaged.record p) := by
      rw [State.record_unstaged]; exact PortRecord.Step.unstaged.steps
    by_cases passed : (s.unstaged.record p).classify = none ∨ ∃ c, (s.unstaged.record p).classify = some c ∧
        ∀ d, c = .raise d → (s.record p).outstanding ≠ none
    · rcases passed with none | ⟨c, class_, settled⟩
      · rw [(State.emitFrame_of_none sweep none).1, ← State.record_unstaged]
        exact unstaged.leads
      · rw [(State.emitFrame_of_class sweep class_ settled).1]
        exact unstaged.leads.trans (s.unstaged.firstPassAt_steps p class_).leads
    · rcases (s.unstaged.record p).classify_cases with none | stale | ⟨d, active, desired, ⟨lower, _⟩ | keep | ⟨raise, above⟩⟩
      · exact absurd (.inl none) passed
      · exact absurd (.inr ⟨_, stale, nofun⟩) passed
      · exact absurd (.inr ⟨_, lower, nofun⟩) passed
      · exact absurd (.inr ⟨_, keep, nofun⟩) passed
      · have alone : (s.record p).outstanding = none := by
          by_contra recalled
          exact passed (.inr ⟨_, raise, fun _ _ => recalled⟩)
        obtain ⟨earlier, later, order⟩ := List.append_of_mem (sweep_mem sweep p)
        obtain ⟨u, _, record, _, _, written, _⟩ := State.emitFrame_of_raise sweep raise alone order
        rw [← State.record_unstaged] at record
        rw [written]
        refine unstaged.leads.trans ?_
        rw [← record] at active desired above ⊢
        exact u.grantRaise_leads p active (by rw [record]; simpa using alone) desired above

end Sys2Proof.Machine
end

section
/-! The events as chains of steps of each record. -/

namespace Sys2Proof.Machine

theorem PortRecord.returnedSent_eq {r : PortRecord} {v x : Int} (h : (r.returned v).outstanding.elim v Recall.value = x) :
    r.returnedSent v = { r.returned v with lastSent := some x } := by
  rw [PortRecord.returnedSent, h]

namespace State.Moves
variable {D : Port → Int → Prop} (s : State)

/-! ### Held and PRIMING frames, and the end of a link -/

theorem holdAt (p : Port) : s.Moves D (s.holdAt p) := by
  unfold State.holdAt
  split
  · exact refl s
  case h_2 u recalled _ => exact sendLower s recalled
  · exact sendKeep s p

theorem emitHeld : s.Moves D s.emitHeld := foldl (fun s p => holdAt s p) _ s

theorem primeAt (p : Port) : s.Moves D (s.primeAt p) := by
  unfold State.primeAt
  split
  exacts [sendKeep s p, refl s]

theorem emitPriming : s.Moves D s.emitPriming := foldl (fun s p => primeAt s p) _ s

theorem silencePort (p : Port) : s.Moves D (s.silencePort p) := by
  unfold State.silencePort
  simp only
  split
  case isTrue can => exact (setRecord s (.silenced can)).trans (raise _ _)
  case isFalse => exact refl s

theorem unbindTimes (p : Port) (n : Nat) : s.Moves D (State.unbindTimes p n s) := by
  obtain ⟨es, l, _, eq⟩ := State.unbindTimes_eq p n s
  exact of_records (by rw [eq]) (by rw [eq]) (State.record_unbindTimes p n s)

theorem rejectFrame (p : Port) : s.Moves D (s.rejectFrame p) := by
  have silent : s.Moves D (((s.setLink p (s.link p).reject).setLink p ((s.setLink p (s.link p).reject).link p).down).silencePort p) :=
    ((setLink s p _).trans (setLink _ p _)).trans (silencePort _ p)
  unfold State.rejectFrame State.loseLink
  simp only
  split
  · split
    exacts [silent.trans (unbindTimes _ p _), silent]
  · exact setLink s p _

theorem enterStandby : s.Moves D s.enterStandby := by
  have records (p : Port) := s.record_enterStandby p
  obtain ⟨r, l, eq⟩ := s.enterStandby_eq
  refine of_steps (by rw [eq]) (by rw [eq]) fun p => ?_
  rw [records]
  exact PortRecord.Step.left.steps

/-! ### Timeouts, silence and the list -/

theorem checkTimeout_steps (p : Port) (r : PortRecord) {D : Int → Prop} : PortRecord.Steps (s.config p) D r (s.checkTimeout p r).1 := by
  unfold State.checkTimeout
  split
  case isFalse => exact .refl
  case isTrue due =>
    refine PortRecord.Step.steps (.timedOut ?_)
    simp only [Bool.and_eq_true, State.recallExpired] at due
    obtain ⟨_, expired⟩ := due
    split at expired
    case h_1 recalling _ => exact recalling
    case h_2 => cases expired

theorem checkSilence_steps (p : Port) (r : PortRecord) {D : Int → Prop} : PortRecord.Steps (s.config p) D r (s.checkSilence p r).1 := by
  unfold State.checkSilence
  split
  case isFalse => exact .refl
  case isTrue due =>
    simp only [Bool.and_eq_true] at due
    exact PortRecord.Step.steps (.silenced due.1)

theorem aged_steps (p : Port) {D : Int → Prop} : PortRecord.Steps (s.config p) D (s.record p) (s.aged p).1 :=
  ((checkTimeout_steps s p (s.record p)).tail (.aged _ _)).trans (checkSilence_steps s p _)

theorem prepareFrame : s.Moves D s.prepareFrame := by
  obtain ⟨n, numbered⟩ := s.numberFrame_eq
  have steps (p : Port) : PortRecord.Steps (s.config p) (D p) (s.record p) (s.numberFrame.aged p).1 := by
    have := aged_steps s.numberFrame p (D := D p)
    generalize (s.numberFrame.aged p).1 = r at *
    rw [numbered] at this
    exact this
  obtain ⟨o, b, m, r, l, eq⟩ := s.prepareFrame_eq
  rw [eq]
  generalize s.numberFrame.aged = aged, s.numberFrame.frameNumber = k at *
  refine of_steps rfl rfl fun p => ?_
  have record := State.record_mapRecords s (fun p _ => (aged p).1) p
  exact Eq.mpr (congrArg _ record) (steps p)

/-! ### Channels -/

theorem visit (is : List ChannelIndex) : s.Moves D (s.visit is) := by
  obtain ⟨sc, ch, eq⟩ := State.visit_eq is s
  rw [eq]
  exact of_records rfl rfl fun _ => rfl

theorem sampleChannel (i : ChannelIndex) (v : Int) : s.Moves D (s.sampleChannel i v) := by
  obtain ⟨m, l, _, eq⟩ := s.sampleChannel_eq i v
  rw [eq]
  exact of_records rfl rfl fun _ => rfl

theorem missChannel (i : ChannelIndex) : s.Moves D (s.missChannel i) := by
  obtain ⟨l, ⟨eq, _⟩ | ⟨_, _, eq⟩⟩ := s.missChannel_eq i
  · rw [eq]
    exact of_records rfl rfl fun _ => rfl
  · rw [eq]
    exact of_steps rfl rfl fun p => (State.record_mapRecords s (fun _ r => { r with staged := none }) p).symm ▸ PortRecord.Step.unstaged.steps

/-! ### Requests -/

theorem takeJoin (p : Port) : s.Moves D (s.takeJoin p) :=
  (((ack s p _).trans (setRecord _ (by simpa using .joined))).trans (sendKeep _ p)).trans (releaseIfFallen _ p _)

theorem takeLeave (p : Port) : s.Moves D (s.takeLeave p) := by
  unfold State.takeLeave
  simp only
  split
  · exact ack s p _
  · exact (((ack s p _).trans (setRecord _ (by simpa using .left))).trans (withdrawLimit _ p)).trans (releaseIfFallen _ p _)

theorem takeYield (p : Port) (v : Int) : s.Moves D (s.takeYield p v) := by
  unfold State.takeYield
  simp only
  split
  · exact (setRecord s (.counters _ _)).trans (nak _ p _ _)
  case h_2 u recalled =>
    split
    case isTrue under => exact ((setRecord s (.fullyYielded u v recalled under)).trans (ack _ p _)).trans (budgetRelease _)
    case isFalse above =>
      split
      case isTrue under =>
        exact ((setRecord s (.partlyYielded u v recalled (Int.not_le.1 above) under)).trans (ack _ p _)).trans (budgetRelease _)
      case isFalse => exact (setRecord s (.counters _ _)).trans (nak _ p _ _)

theorem returnPort (p : Port) : s.Moves D (s.returnPort p) := by
  unfold State.returnPort
  split
  case isFalse => exact refl s
  case isTrue silent =>
    refine Moves.trans ?_ (releaseIfFallen _ p _)
    have value : s.returnedValue p = (s.record p).committed ∨
        s.returnedValue p = (s.config p).clampValue (min ((s.record p).applied (s.config p)) (s.record p).committed) := by
      unfold State.returnedValue
      simp only
      split
      exacts [.inl rfl, .inr rfl]
    have step : PortRecord.Step (s.config p) (D p) (s.record p) _ := .returned _ silent value
    split
    case h_1 u recalled =>
      refine at_port ((State.WrittenAt.setRecord s p _).trans (.sendLower _ p _)) ?_
      rw [State.sendLower, State.record_sendLimit, if_pos rfl, State.record_setRecord, if_pos rfl]
      rw [PortRecord.returnedSent_eq (x := u.value) (by rw [recalled]; rfl)] at step
      exact step.steps
    case h_2 ended =>
      refine at_port ((State.WrittenAt.setRecord s p _).trans (.sendKeep _ p)) ?_
      rw [State.record_sendKeep, if_pos rfl, State.record_setRecord, if_pos rfl]
      rw [PortRecord.returnedSent_eq (x := s.returnedValue p) (by rw [ended]; rfl)] at step
      exact step.steps

theorem checkOverrun (p : Port) : s.Moves D (s.checkOverrun p) := by
  unfold State.checkOverrun
  simp only
  split
  · exact refl s
  · split
    · exact setRecord s (.overrun false 0)
    · split
      · exact (setRecord s (.overrun true _)).trans (raise _ _)
      · exact setRecord s (.overrun (s.record p).overrun _)

theorem takeClusterReport (p : Port) (o a d : Int) : s.Moves D (s.takeClusterReport p o a d) :=
  ((setRecord s (.clusterStored o a d)).trans (returnPort _ p)).trans (checkOverrun _ p)

theorem takeStorageReport (p : Port) (a d c e k : Int) : s.Moves D (s.takeStorageReport p a d c e k) :=
  (setRecord s (.storageStored a d c e k)).trans (returnPort _ p)

theorem zeroCounters : s.Moves D s.zeroCounters := by
  obtain ⟨l, eq⟩ := s.zeroCounters_eq
  rw [eq]
  exact of_steps rfl rfl fun p =>
    (State.record_mapRecords s (fun _ r => { r with yieldsRefused := 0, recallTimeouts := 0 }) p).symm ▸ (PortRecord.Step.counters 0 0).steps

end State.Moves

/-! ### A division writes desired values to the ports that take part -/

theorem mem_of_lookupPort {p : Port} {v : Int} {values : List (Port × Int)} (h : lookupPort p values = some v) : (p, v) ∈ values := by
  induction values with
  | nil => cases h
  | cons x rest ih =>
    obtain ⟨q, w⟩ := x
    unfold lookupPort at h
    split at h
    case isTrue same => cases h; rw [same]; exact List.mem_cons_self
    case isFalse => exact List.mem_cons_of_mem _ (ih h)

theorem walkOnce_ports (left : Int) (xs : List Share) : (walkOnce left xs).2.map Share.port = xs.map Share.port := by
  have walked := walkOnce_walked left xs
  generalize (walkOnce left xs).2 = ys at walked
  induction walked with
  | nil => rfl
  | cons h _ ih => rw [List.map_cons, List.map_cons, h.1, ih]

theorem walkAgain_ports (n : Nat) (left : Int) (xs : List Share) : (walkAgain n left xs).map Share.port = xs.map Share.port := by
  induction n generalizing left xs with
  | zero => rfl
  | succ n ih =>
    unfold walkAgain
    split
    · exact (ih _ _).trans (walkOnce_ports left xs)
    · rfl

theorem port_of_mem_divideAmong {amount : Int} {members : List (Port × Int)} {x : Share} (h : x ∈ divideAmong amount members) :
    x.port ∈ members.map Prod.fst := by
  have ports : (divideAmong amount members).map Share.port = members.map Prod.fst := by
    unfold divideAmong
    simp only
    rw [walkAgain_ports, floorShares, List.map_map]
    rfl
  rw [← ports]
  exact List.mem_map_of_mem h

/-- Only ENGAGED and RECALLING storage ports are given a setpoint (R84 to R86). -/
theorem State.activeStorage_of_mem_setpoints {s : State} {net : Int} {p : Port} {v : Int} (h : (p, v) ∈ s.setpoints net) :
    s.activeStorage p = true := by
  have member {f : StorageReport → Int} {x : Share} {amount : Int} (mem : x ∈ divideAmong amount (s.storageMembers f)) :
      s.activeStorage x.port = true := by
    have := port_of_mem_divideAmong mem
    rw [State.storageMembers, List.map_map] at this
    obtain ⟨q, mem, same⟩ := List.mem_map.1 this
    exact same ▸ (List.mem_filter.1 mem).2
  unfold State.setpoints at h
  split at h
  · obtain ⟨x, mem, same⟩ := List.mem_map.1 h
    cases same
    exact member mem
  · split at h
    · obtain ⟨x, mem, same⟩ := List.mem_map.1 h
      cases same
      exact member mem
    · obtain ⟨q, mem, same⟩ := List.mem_map.1 h
      cases same
      exact (List.mem_filter.1 mem).2

/-- Only the clusters divided among are given a ceiling (R100 to R104). -/
theorem port_of_mem_divideBudget {budget : Int} {cs : List ActiveCluster} {x : Port × Int} (h : x ∈ divideBudget budget cs) :
    x.1 ∈ cs.map ActiveCluster.port := by
  have ports : (divideBudget budget cs).map Prod.fst = cs.map ActiveCluster.port := by
    have given (ys : List Share) (same : ys.map Share.port = cs.map ActiveCluster.port) :
        (ys.map fun x => (x.port, x.given)).map Prod.fst = cs.map ActiveCluster.port := by rw [List.map_map]; exact same
    have each (value : ActiveCluster → Int) : (cs.map fun c => (c.port, value c)).map Prod.fst = cs.map ActiveCluster.port := by
      rw [List.map_map]; rfl
    unfold divideBudget
    simp only
    split
    · split
      · exact given _ (by rw [divideProportional, walkOnce_ports, floorShares, List.map_map, List.map_map]; rfl)
      · exact each _
    · split
      · exact each _
      · split
        · exact each _
        · exact given _ (by rw [divideSpare, walkOnce_ports, List.map_map]; rfl)
  rw [← ports]
  exact List.mem_map_of_mem h

theorem State.active_of_mem_ceilings {s : State} {profile : Profile} {budget : Int} {p : Port} {v : Int}
    (h : (p, v) ∈ divideBudget budget (s.activeSet profile)) : (s.record p).Active := by
  have := port_of_mem_divideBudget h
  rw [State.activeSet, List.map_map] at this
  obtain ⟨q, mem, same⟩ := List.mem_map.1 this
  have active := (List.mem_filter.1 mem).2
  simp only [Function.comp_apply] at same
  rw [same, Bool.and_eq_true] at active
  exact (PortRecord.active_iff _).1 active.2

theorem State.Moves.writeDesired {D : Port → Int → Prop} (s : State) (role : Role) (values : List (Port × Int))
    (ok : ∀ p v, (p, v) ∈ values → (s.record p).Active ∧ D p v) : s.Moves D (s.writeDesired role values) :=
  State.Moves.mapRecords fun p => by
    split
    · exact PortRecord.Step.steps (.wanted _ fun v found => ok p v (mem_of_lookupPort found))
    · exact .refl

/-! ### The frames -/

theorem State.record_reportStages (s : State) (st : Stages) (p : Port) : (s.reportStages st).record p = s.record p := by
  obtain ⟨c, e, l, eq⟩ := s.reportStages_eq st
  rw [eq]
  rfl

theorem State.record_appendRecord (s : State) (profile : Profile) (r : FrameRecord) (p : Port) : (s.appendRecord profile r).record p = s.record p := by
  obtain ⟨ring, n, c, e, l, eq⟩ := s.appendRecord_eq profile r
  rw [eq]
  rfl

/-- The setpoints of a governing frame (R84 to R86). -/
def State.frameSetpoints (s : State) : List (Port × Int) :=
  (s.readied.reportStages s.frameStages).setpoints ((s.readied.reportStages s.frameStages).engagedTarget s.frameNet)

/-- The ceilings of a governing frame (R100 to R104). -/
def State.frameCeilings (s : State) : List (Port × Int) :=
  divideBudget (s.recorded.activeBudget s.activeProfile (s.frameStages.reference - s.readied.actualNet s.frameNet)) (s.recorded.activeSet s.activeProfile)

/-- The values that a governing frame makes desired are such that `D` holds of them. -/
def State.Desires (s : State) (D : Port → Int → Prop) : Prop :=
  (∀ p v, (p, v) ∈ s.frameSetpoints → D p v) ∧ ∀ p v, (p, v) ∈ s.frameCeilings → D p v

theorem State.Moves.readied {D : Port → Int → Prop} (s : State) : s.Moves D s.readied :=
  .of_steps rfl rfl fun p => by
    have record : s.readied.record p = _ := State.record_mapRecords s.advanceSweep _ p
    rw [record]
    split
    exacts [PortRecord.Step.formed.steps, .refl]

theorem State.Moves.figured {D : Port → Int → Prop} {s : State} (setpoints : ∀ p v, (p, v) ∈ s.frameSetpoints → D p v) : s.Moves D s.figured := by
  have reported : s.Moves D (s.readied.reportStages s.frameStages) := by
    have records := s.readied.record_reportStages s.frameStages
    obtain ⟨c, e, l, eq⟩ := s.readied.reportStages_eq s.frameStages
    exact (State.Moves.readied s).trans (.of_records (by rw [eq]) (by rw [eq]) records)
  have split : s.Moves D ((s.readied.reportStages s.frameStages).splitStorage s.frameNet) :=
    reported.trans (.writeDesired _ _ _ fun p v mem => ⟨?_, setpoints p v mem⟩)
  · unfold State.figured
    generalize s.frameStages.reference = r, s.frameTarget = t, s.readied.actualNet s.frameNet = n
    exact split.trans (.of_records rfl rfl fun _ => rfl)
  · have active := State.activeStorage_of_mem_setpoints mem
    simp only [State.activeStorage, Bool.and_eq_true] at active
    exact (PortRecord.active_iff _).1 active.2

theorem State.Moves.divided {D : Port → Int → Prop} {s : State} (desires : s.Desires D) : s.Moves D s.divided := by
  obtain ⟨setpoints, ceilings⟩ := desires
  have recorded : s.Moves D s.recorded := by
    have records := s.figured.record_appendRecord s.activeProfile (s.figured.frameRecord s.frameMarks)
    obtain ⟨ring, n, c, e, l, eq⟩ := s.figured.appendRecord_eq s.activeProfile (s.figured.frameRecord s.frameMarks)
    exact (State.Moves.figured setpoints).trans (.of_records (by rw [State.recorded, eq]) (by rw [State.recorded, eq]) records)
  exact recorded.trans (.writeDesired _ _ _ fun p v mem => ⟨State.active_of_mem_ceilings mem, ceilings p v mem⟩)

theorem State.sweepOrder_divided (s : State) : s.divided.sweepOrder.Perm (List.finRange 12) := by
  obtain ⟨_, _, _, _, _, _, _, _, eq⟩ := s.divided_eq
  rw [eq]
  exact sweepOrderOf_perm _ _

theorem State.Moves.governFrame {D : Port → Int → Prop} {s : State} (desires : s.Desires D) : s.Moves D s.governFrame := by
  rw [State.governFrame_eq]
  exact (State.Moves.divided desires).trans (.emitFrame s.sweepOrder_divided)

theorem State.Moves.holdFrame {D : Port → Int → Prop} (s : State) : s.Moves D s.holdFrame := by
  unfold State.holdFrame
  extract_lets profile targeted
  have records := targeted.record_appendRecord profile (targeted.frameRecord { Marks.empty with hold := true })
  have emitted := State.Moves.emitHeld (D := D) (targeted.appendRecord profile (targeted.frameRecord { Marks.empty with hold := true }))
  obtain ⟨ring, n, c, e, l, eq⟩ := targeted.appendRecord_eq profile (targeted.frameRecord { Marks.empty with hold := true })
  refine State.Moves.trans (t := targeted.appendRecord profile (targeted.frameRecord { Marks.empty with hold := true })) ?_ emitted
  exact .of_records (by rw [eq]) (by rw [eq]) records

theorem State.Moves.primeFrame {D : Port → Int → Prop} (s : State) : s.Moves D s.primeFrame := by
  cases primed : s.primed s.primingCount with
  | none =>
    rw [State.primeFrame_waits primed]
    refine State.Moves.trans (t := { s with primingCounter := s.primingCount }) ?_ (.emitPriming _)
    exact .of_records rfl rfl fun _ => rfl
  | some power =>
    rw [State.primeFrame_seeds primed]
    refine State.Moves.trans (t := { s with primingCounter := s.primingCount }.endPriming power) ?_ (.emitPriming _)
    refine State.Moves.trans (t := { s with
      primingCounter := s.primingCount, reference := clamp 0 s.site.exportLimit power, windowBase := 1, sinceBase := 0 }) ?_ (.changeMode _ _)
    exact .of_records rfl rfl fun _ => rfl

theorem State.Moves.workFrame {D : Port → Int → Prop} {s : State} (desires : s.mode = .governing → s.Desires D) : s.Moves D s.workFrame := by
  unfold State.workFrame
  split
  case h_2 governing => exact .governFrame (desires governing)
  exacts [.primeFrame s, .holdFrame s, .refl s, .refl s]

end Sys2Proof.Machine
end

section
/-! What an event does to records, port table and site record. -/

namespace Sys2Proof.Machine

/-- What an effect does to the records, the port table and the site record: a chain of steps in a mode of the same kind, or one of the events that replace
more than that. -/
inductive State.Course (s : State) : State → Prop
  | moves {w : State} (h : ∀ D, s.Moves D w) (running : w.mode.running = s.mode.running) : s.Course w
  | loaded (memory : List Byte) (reading : s.readProgress = .reading) : s.Course (s.endLoading memory)
  | frame (due : s.frameDue = true) : s.Course s.prepareFrame.workFrame
  | stopped (t : State) (h : ∀ D, s.Moves D t) : s.Course t.enterStandby
  | site (t : State) (f : SiteFields) (site : SiteRecord) (l : Vector LinkPort 12) (h : ∀ D, s.Moves D t) (standby : s.mode = .standby)
      (same : t.mode = s.mode) (found : siteOf f = some site) : s.Course { t with site := site, links := l }
  | port (t : State) (f : PortFields) (p : Port) (c : PortConfig) (l : Vector LinkPort 12) (h : ∀ D, s.Moves D t) (standby : s.mode = .standby)
      (same : t.mode = s.mode) (heard : ∀ q, ∃ n, t.record q = { s.record q with silence := n }) (found : portConfigOf f = some (p, c)) :
      s.Course
        { t with
          portTable := t.portTable.set p c, records := (t.setRecord p { t.record p with committed := c.rest }).records, links := l }
  | started (t : State) (h : ∀ D, s.Moves D t) (standby : s.mode = .standby) (heard : ∀ q, ∃ n, t.record q = { s.record q with silence := n })
      (passed : s.inForce.crossCheck = .passed) : s.Course t.enterPriming

theorem State.Moves.links {D : Port → Int → Prop} {s t w : State} {l : Vector LinkPort 12} (h : s.Moves D t) (eq : w = { t with links := l }) :
    s.Moves D w := by
  subst eq
  exact h.trans (.of_records rfl rfl fun _ => rfl)

/-- Every effect takes one of these courses. -/
theorem State.Effect.course {s w : State} (e : s.Effect w) : s.Course w := by
  have heard (p : Port) {D : Port → Int → Prop} : s.Moves D (s.acceptFrame p) := .acceptFrame s p
  have silence (p q : Port) : ∃ n, (s.acceptFrame p).record q = { s.record q with silence := n } := by
    rw [State.record_acceptFrame]
    split
    case isTrue same => exact ⟨0, by rw [same]⟩
    case isFalse => exact ⟨_, rfl⟩
  have kept {w : State} (h : ∀ D, s.Moves D w) (frame : w.frame = s.frame) : s.Course w :=
    .moves h (congrArg Mode.running (State.mode_of_frame frame))
  cases e with
  | loaded memory reading => exact .loaded memory reading
  | frame due => exact .frame due
  | scanned =>
    refine .moves (fun D => .visit s _) ?_
    obtain ⟨_, _, eq⟩ := State.visit_eq (List.finRange 16) s
    rw [eq]
  | sampled scan v =>
    refine .moves (fun D => (State.Moves.sampleChannel s _ v).trans (.visit _ _)) ?_
    obtain ⟨_, _, visited⟩ := State.visit_eq (channelsAfter scan.channel) (s.sampleChannel scan.channel v)
    obtain ⟨m, _, mode, sampled⟩ := s.sampleChannel_eq scan.channel v
    rw [State.scanOn, visited, sampled]
    rcases mode with rfl | ⟨holding, rfl, _⟩
    · rfl
    · show _ = s.mode.running
      rw [holding]
      rfl
  | missed scan =>
    refine .moves (fun D => (State.Moves.missChannel s _).trans (.visit _ _)) ?_
    obtain ⟨_, _, visited⟩ := State.visit_eq (channelsAfter scan.channel) (s.missChannel scan.channel)
    obtain ⟨_, ⟨missed, _⟩ | ⟨governing, _, missed⟩⟩ := s.missChannel_eq scan.channel
    · rw [State.scanOn, visited, missed]
    · rw [State.scanOn, visited, missed, governing]
      rfl
  | sent p m => exact kept (fun D => .setLink s p _) rfl
  | rejected p =>
    obtain ⟨es, r, l, _, eq⟩ := s.rejectFrame_eq p
    exact .moves (fun D => .rejectFrame s p) (by rw [eq])
  | replied p m => exact kept (fun D => (heard p).trans (.enqueue _ p m)) (by simp)
  | restart p =>
    refine .moves (fun D => ?_) rfl
    exact (heard p).trans ((State.Moves.enqueue _ p (.ack 0x29#8 false true)).trans (.of_records rfl rfl fun _ => rfl))
  | joined p => exact kept (fun D => (heard p).trans (.takeJoin _ p)) (by simp)
  | clusterReport p => exact kept (fun D => (heard p).trans (.takeClusterReport _ p _ _ _)) (by simp)
  | storageReport p => exact kept (fun D => (heard p).trans (.takeStorageReport _ p _ _ _ _ _)) (by simp)
  | yielded p => exact kept (fun D => (heard p).trans (.takeYield _ p _)) (by simp)
  | left p => exact kept (fun D => (heard p).trans (.takeLeave _ p)) (by simp)
  | pushed p b delay expiry =>
    rcases (s.acceptFrame p).takePush_cases p b delay expiry with ⟨l, eq⟩ | ⟨_, l, eq⟩
    · exact .moves (fun D => (heard p).links eq) (by rw [eq]; simp)
    · refine .moves (fun D => (heard p).trans ?_) (by rw [eq]; simp)
      rw [eq]; exact .of_records rfl rfl fun _ => rfl
  | dropped p =>
    rcases (s.acceptFrame p).takeDrop_cases p with ⟨l, eq⟩ | ⟨_, _, l, eq⟩
    · exact .moves (fun D => (heard p).links eq) (by rw [eq]; simp)
    · refine .moves (fun D => (heard p).trans ?_) (by rw [eq]; simp)
      rw [eq]; exact .of_records rfl rfl fun _ => rfl
  | site p f standby =>
    rcases (s.acceptFrame p).takeSetSite_cases p f with ⟨l, eq⟩ | ⟨site, found, l, eq⟩
    · exact .moves (fun D => (heard p).links eq) (by rw [eq]; simp)
    · rw [eq]; exact .site _ f site l (fun D => heard p) standby (by simp) found
  | port p f standby =>
    rcases (s.acceptFrame p).takeSetPort_cases p f with ⟨l, eq⟩ | ⟨q, c, found, l, eq⟩
    · exact .moves (fun D => (heard p).links eq) (by rw [eq]; simp)
    · rw [eq]; exact .port _ f q c l (fun D => heard p) standby (by simp) (silence p) found
  | chan p f =>
    rcases (s.acceptFrame p).takeSetChan_cases p f with ⟨l, eq⟩ | ⟨_, _, _, l, eq⟩
    · exact .moves (fun D => (heard p).links eq) (by rw [eq]; simp)
    · refine .moves (fun D => (heard p).trans ?_) (by rw [eq]; simp)
      rw [eq]; exact .of_records rfl rfl fun _ => rfl
  | prof p b =>
    rcases (s.acceptFrame p).takeSetProf_cases p b with ⟨l, eq⟩ | ⟨_, _, l, eq⟩
    · exact .moves (fun D => (heard p).links eq) (by rw [eq]; simp)
    · refine .moves (fun D => (heard p).trans ?_) (by rw [eq]; simp)
      rw [eq]; exact .of_records rfl rfl fun _ => rfl
  | modeRun p standby =>
    have checked := (s.acceptFrame p).runChecked_cases p
    rw [State.inForce_acceptFrame] at checked
    rcases checked with ⟨_, l, eq⟩ | ⟨passed, l, eq⟩
    · rw [eq]
      generalize s.inForce.crossCheck = result
      refine .moves (fun D => (heard p).trans ?_) (by simp)
      exact .of_records rfl rfl fun _ => rfl
    · rw [eq]
      refine .started { s.acceptFrame p with checkResult := .passed, links := l } (fun D => (heard p).trans ?_) standby (silence p) passed
      exact .of_records rfl rfl fun _ => rfl
  | modeStandby p => exact .stopped _ fun D => (heard p).trans (.ack _ p _)
  | counters p =>
    refine .moves (fun D => (heard p).trans ((State.Moves.zeroCounters _).trans (.ack _ p _))) ?_
    obtain ⟨l, eq⟩ := (s.acceptFrame p).zeroCounters_eq
    rw [State.ack_mode, eq]
    simp
  | alarms p channel =>
    obtain ⟨_, l, _, eq⟩ := (s.acceptFrame p).takeClearAlarms_eq p channel
    refine .moves (fun D => (heard p).trans ?_) (by rw [eq]; simp)
    rw [eq]; exact .of_records rfl rfl fun _ => rfl
  | notices p => exact kept (fun D => (heard p).trans ((State.Moves.setLink _ p _).trans (.ack _ p _))) (by simp [State.takeClearNotices])

end Sys2Proof.Machine
end

section
/-! The channels over every event, and the reference within [0, E] (O59). -/

namespace Sys2Proof.Machine

/-! ### What every event does to a channel -/

/-- A channel configuration in its ranges (R56). -/
structure ChannelConfig.Fits (c : ChannelConfig) : Prop where
  groupSize : 1 ≤ c.groupSize
  averaging : 1 ≤ c.averaging

theorem channelConfigOf_fits {f : ChannelFields} {i : ChannelIndex} {c : ChannelConfig} (h : channelConfigOf f = some (i, c)) : c.Fits := by
  unfold channelConfigOf at h
  split at h
  · split at h
    case isTrue fits =>
      cases h
      simp only [inRange, Bool.and_eq_true, decide_eq_true_eq] at fits
      constructor <;> simp only <;> omega
    case isFalse => cases h
  · cases h

theorem ChannelConfig.start_fits : ChannelConfig.start.Fits := ⟨le_refl _, le_refl _⟩

theorem judgeImage_channels {memory : List Byte} {c : Configuration} (ok : judgeImage memory = .ok c) (i : ChannelIndex) : (c.channels[i]).Fits := by
  refine (judgeImage_induction (P := fun c => ∀ i : ChannelIndex, (c.channels[i]).Fits) ?_ ?_ ok).1 i
  · intro i
    simpa [Configuration.start] using ChannelConfig.start_fits
  · intro c r c' fits staged j
    rcases Configuration.stage_cases staged with ⟨_, _, _, rfl⟩ | ⟨_, _, _, _, rfl⟩ | ⟨f, k, channel, found, rfl⟩ | ⟨_, _, _, rfl⟩
    · exact fits j
    · exact fits j
    · have := fits j
      simp only [Fin.getElem_fin, Vector.getElem_set] at this ⊢
      split
      exacts [channelConfigOf_fits found, this]
    · exact fits j

@[simp] theorem State.record_enterPriming (s : State) (p : Port) : s.enterPriming.record p = { s.record p with desired := none } := by
  unfold State.enterPriming
  rw [State.changeMode_record, State.record_mapRecords]
  rfl

@[simp] theorem State.channel_enterPriming (s : State) (c : ChannelIndex) : s.enterPriming.channel c = (s.channel c).restarted := by
  unfold State.enterPriming
  rw [State.changeMode_channel, State.mapRecords_channel, State.channel_mapChannels]
  rfl

@[simp] theorem State.config_enterPriming (s : State) (p : Port) : s.enterPriming.config p = s.config p := by
  obtain ⟨r, l, eq⟩ := s.enterPriming_eq
  rw [eq]
  rfl

@[simp] theorem State.site_enterPriming (s : State) : s.enterPriming.site = s.site := by
  obtain ⟨r, l, eq⟩ := s.enterPriming_eq
  rw [eq]

@[simp] theorem State.channel_enterStandby (s : State) (c : ChannelIndex) : s.enterStandby.channel c = s.channel c := by
  obtain ⟨r, l, eq⟩ := s.enterStandby_eq
  rw [eq]
  rfl

/-- The image's site record, port table and default profile in force, the reader idle (R136). -/
def State.replacedBy (s : State) (c : Configuration) : State :=
  { s with readProgress := .idle, site := c.site, portTable := c.ports, defaultProfile := c.profile }

/-- The state that a good image's PRIMING is entered from (R136). -/
def State.loadedWith (s : State) (c : Configuration) : State :=
  { ({ s with readProgress := .idle }.bringIntoForce c) with checkResult := .passed }

theorem State.endLoading_cases (s : State) (memory : List Byte) :
    (∃ c, judgeImage memory = .ok c ∧ s.endLoading memory = (s.loadedWith c).enterPriming) ∨
    ∃ e, judgeImage memory = .error e ∧ s.endLoading memory = { s with readProgress := .idle, checkResult := e }.enterStandby := by
  unfold State.endLoading
  split
  case h_1 c ok => exact .inl ⟨c, ok, rfl⟩
  case h_2 e failed => exact .inr ⟨e, failed, rfl⟩

@[simp] theorem State.channel_loadedWith (s : State) (c : Configuration) (i : ChannelIndex) :
    (s.loadedWith c).channel i = configuredChannel c.channels[i] := by
  have mapped := State.channel_mapChannels ((s.replacedBy c).mapRecords fun p r => { r with committed := (c.ports[p]).rest })
    (fun i _ => configuredChannel c.channels[i]) i
  rw [State.loadedWith, State.bringIntoForce]
  exact mapped

@[simp] theorem State.record_loadedWith (s : State) (c : Configuration) (p : Port) :
    (s.loadedWith c).record p = { s.record p with committed := (c.ports[p]).rest } :=
  State.record_mapRecords (s.replacedBy c) (fun p r => { r with committed := (c.ports[p]).rest }) p

@[simp] theorem State.config_loadedWith (s : State) (c : Configuration) (p : Port) : (s.loadedWith c).config p = c.ports[p] := rfl

@[simp] theorem State.site_loadedWith (s : State) (c : Configuration) : (s.loadedWith c).site = c.site := rfl

/-- A law `P` of single channels that every event keeps, where a channel being read meets `R`. -/
structure Channel.Kept (P R : Channel → Prop) : Prop where
  skip : ∀ c n, P c → P { c with skipCounter := n }
  sample : ∀ c v, R c → P c → P (c.takeSample v)
  missing : ∀ c, P c → P c.takeMissing
  restarted : ∀ c, P c → P c.restarted
  configured : ∀ c, c.Fits → P (configuredChannel c)
  counted : ∀ c, P c → P { c with missing := 0 }
  cleared : ∀ c, P c → P c.alarmsCleared

theorem State.channels_setChannel {P : Channel → Prop} {s : State} (h : ∀ i, P (s.channel i)) (i : ChannelIndex) {c : Channel} (hc : P c) (j : ChannelIndex) :
    P ((s.setChannel i c).channel j) := by
  rw [State.channel_setChannel]
  split
  exacts [hc, h j]

theorem State.channels_visit {P : Channel → Prop} (skip : ∀ c n, P c → P { c with skipCounter := n }) (is : List ChannelIndex) {s : State}
    (h : ∀ i, P (s.channel i)) (j : ChannelIndex) : P ((s.visit is).channel j) := by
  induction is generalizing s with
  | nil => exact h j
  | cons i is ih =>
    unfold State.visit
    simp only
    split
    · exact ih h
    · split
      · exact State.channels_setChannel h i (skip _ _ (h i)) j
      · exact ih (State.channels_setChannel h i (skip _ _ (h i)))

theorem State.channel_workFrame (s : State) (c : ChannelIndex) : s.workFrame.channel c = s.channel c := by
  unfold State.workFrame
  split
  · cases primed : s.primed s.primingCount with
    | none =>
      obtain ⟨r, l, eq⟩ := State.primeFrame_eq_of_none primed
      rw [eq]; rfl
    | some power =>
      obtain ⟨r, l, eq⟩ := State.primeFrame_eq_of_some primed
      rw [eq]; rfl
  · obtain ⟨_, _, _, _, _, _, _, _, eq⟩ := s.divided_eq
    rw [State.governFrame_eq, State.channel_of_frame (State.frame_emitFrame _), eq]; rfl
  · obtain ⟨_, _, _, _, _, _, _, eq⟩ := s.holdFrame_eq
    rw [eq]; rfl
  · rfl
  · rfl

theorem State.channel_prepareFrame (s : State) (c : ChannelIndex) : s.prepareFrame.channel c = s.channel c := by
  obtain ⟨_, _, _, _, _, eq⟩ := s.prepareFrame_eq
  rw [eq]; rfl

theorem State.channel_sampleChannel (s : State) (i j : ChannelIndex) (v : Int) :
    (s.sampleChannel i v).channel j = if j = i then (s.channel i).takeSample v else s.channel j := by
  obtain ⟨_, _, _, eq⟩ := s.sampleChannel_eq i v
  rw [eq]
  exact State.channel_setChannel s i j _

theorem State.channel_missChannel (s : State) (i j : ChannelIndex) :
    (s.missChannel i).channel j = if j = i then (s.channel i).takeMissing else s.channel j := by
  obtain ⟨_, ⟨eq, _⟩ | ⟨_, _, eq⟩⟩ := s.missChannel_eq i
  all_goals
    rw [eq]
    exact State.channel_setChannel s i j _

/-- Every effect keeps a law of single channels. -/
theorem State.Effect.channels {P R : Channel → Prop} (keeps : Channel.Kept P R) {s w : State} (e : s.Effect w)
    (reading : ∀ scan, s.scan = some scan → R (s.channel scan.channel)) (h : ∀ i, P (s.channel i)) (j : ChannelIndex) : P (w.channel j) := by
  cases e.shape with
  | loaded memory _ eq =>
    rcases s.endLoading_cases memory with ⟨c, ok, loaded⟩ | ⟨e, _, loaded⟩
    · rw [eq, loaded, State.channel_enterPriming, State.channel_loadedWith]
      exact keeps.restarted _ (keeps.configured _ (judgeImage_channels ok j))
    · rw [eq, loaded, State.channel_enterStandby]
      exact h j
  | expired _ eq => rw [eq, State.channel_workFrame, State.channel_prepareFrame]; exact h j
  | scanned _ _ eq => rw [eq]; exact State.channels_visit keeps.skip _ h j
  | sampled scan v awaited eq =>
    rw [eq]
    refine State.channels_visit keeps.skip _ (fun i => ?_) j
    rw [State.channel_sampleChannel]
    split
    exacts [keeps.sample _ v (reading scan awaited) (h _), h i]
  | missed scan _ eq =>
    rw [eq]
    refine State.channels_visit keeps.skip _ (fun i => ?_) j
    rw [State.channel_missChannel]
    split
    exacts [keeps.missing _ (h _), h i]
  | chan f i c _ found frame =>
    rw [State.channel_of_frame frame]
    exact State.channels_setChannel h i (keeps.configured c (channelConfigOf_fits found)) j
  | started t _ _ frame eq =>
    rw [eq, State.channel_enterPriming, State.channel_of_frame frame]
    exact keeps.restarted _ (h j)
  | stopped t _ frame eq => rw [eq, State.channel_enterStandby, State.channel_of_frame frame]; exact h j
  | counters frame =>
    rw [State.channel_of_frame frame]
    have cleared := State.channel_mapChannels s (fun _ c => { c with missing := 0 }) j
    exact Eq.mpr (congrArg P cleared) (keeps.counted _ (h j))
  | alarms ch each frame =>
    rw [State.channel_of_frame frame]
    rcases each j with same | cleared
    · exact Eq.mpr (congrArg P same) (h j)
    · exact Eq.mpr (congrArg P cleared) (keeps.cleared _ (h j))
  | _ =>
    rename_i frame
    rw [State.channel_of_frame frame]
    exact h j

/-! ### Ratios -/

theorem ratioOf_mem (track v : Int) : 0 ≤ ratioOf track v ∧ ratioOf track v ≤ 256 := by
  unfold ratioOf
  split
  · omega
  · split
    · omega
    · have := Int.ediv_nonneg (a := 256 * v) (b := track) (by omega) (by omega)
      omega

theorem Channel.ratio_gather (c : Channel) (v : Int) : (c.gather v).ratio = c.ratio := by
  unfold Channel.gather
  simp only
  split <;> rfl

/-- Every event leaves a ratio or puts it into 0 … 256 (R73). -/
theorem Channel.ratio_kept {P : Int → Prop} (fits : ∀ r, 0 ≤ r ∧ r ≤ 256 → P r) : Channel.Kept (fun c => P c.ratio) fun _ => True where
  skip _ _ h := h
  sample c v _ h := by
    unfold Channel.takeSample
    split
    · unfold Channel.takeValue
      simp only
      split
      · exact fits _ (ratioOf_mem _ _)
      · rw [Channel.ratio_gather]; exact h
    · rw [Channel.ratio_gather]; exact h
  missing c h := by
    unfold Channel.takeMissing
    simp only
    split
    exacts [fits 256 (by decide), h]
  restarted c h := by
    unfold Channel.restarted
    split
    exacts [h, fits 256 (by decide)]
  configured c _ := fits 256 (by decide)
  counted _ h := h
  cleared _ h := h

end Sys2Proof.Machine
end

section
/-! The reference within [0, E] (O59). -/

namespace Sys2Proof.Machine

/-! ### The port table and the site record -/

theorem PortConfig.figuresFit_of_inRange {c : PortConfig} (h : c.inRange = true) : c.FiguresFit := by
  unfold PortConfig.inRange at h
  unfold PortConfig.FiguresFit
  split at h
  all_goals
    simp only [Machine.inRange, powerLimit, Bool.and_eq_true, decide_eq_true_eq, beq_iff_eq] at h
    omega

theorem portConfigOf_inRange {f : PortFields} {p : Port} {c : PortConfig} (h : portConfigOf f = some (p, c)) : c.inRange = true := by
  unfold portConfigOf at h
  split at h
  · simp only at h
    split at h
    case isTrue fits => cases h; exact fits
    case isFalse => cases h
  · cases h

theorem PortConfig.start_figuresFit : PortConfig.start.FiguresFit := ⟨le_refl _, le_refl _, le_refl _⟩

/-- A good image's port table is in range (R136, R139). -/
theorem judgeImage_ports {memory : List Byte} {c : Configuration} (ok : judgeImage memory = .ok c) (p : Port) : (c.ports[p]).FiguresFit := by
  refine (judgeImage_induction (P := fun c => ∀ p : Port, (c.ports[p]).FiguresFit) ?_ ?_ ok).1 p
  · intro p
    simpa [Configuration.start] using PortConfig.start_figuresFit
  · intro c r c' fits staged q
    rcases Configuration.stage_cases staged with ⟨_, _, _, rfl⟩ | ⟨f, k, entry, found, rfl⟩ | ⟨_, _, _, _, rfl⟩ | ⟨_, _, _, rfl⟩
    · exact fits q
    · have := fits q
      simp only [Fin.getElem_fin, Vector.getElem_set] at this ⊢
      split
      exacts [PortConfig.figuresFit_of_inRange (portConfigOf_inRange found), this]
    · exact fits q
    · exact fits q

theorem siteOf_exportLimit {f : SiteFields} {site : SiteRecord} (h : siteOf f = some site) : 0 ≤ site.exportLimit := by
  unfold siteOf at h
  split at h
  · simp only at h
    split at h
    · cases h
      exact Int.natCast_nonneg _
    · cases h
  · cases h

theorem judgeImage_exportLimit {memory : List Byte} {c : Configuration} (ok : judgeImage memory = .ok c) : 0 ≤ c.site.exportLimit := by
  refine (judgeImage_induction (P := fun c => 0 ≤ c.site.exportLimit) ?_ ?_ ok).1
  · decide
  · intro c r c' fits staged
    rcases Configuration.stage_cases staged with ⟨_, _, found, rfl⟩ | ⟨_, _, _, _, rfl⟩ | ⟨_, _, _, _, rfl⟩ | ⟨_, _, _, rfl⟩
    · exact siteOf_exportLimit found
    · exact fits
    · exact fits
    · exact fits

theorem State.config_set (s : State) (p q : Port) (c : PortConfig) : (s.portTable.set p c)[q] = if q = p then c else s.config q := by
  rw [Fin.getElem_fin, Vector.getElem_set]
  by_cases same : q = p
  · simp [same]
  · rw [if_neg (fun h => same (Fin.ext h.symm)), if_neg same]; rfl

/-- The frame of an expiry leaves the site record and the port table, and leads each record on. -/
theorem State.Moves.frame {D : Port → Int → Prop} (s : State) (desires : s.mode = .governing → s.prepareFrame.Desires D) :
    s.Moves D s.prepareFrame.workFrame :=
  (State.Moves.prepareFrame s).trans (.workFrame fun governing => desires (s.mode_prepareFrame ▸ governing))

/-- A law `I` of a port table entry and its record that every chain of steps and grants keeps where `D` holds of what becomes desired, and every replacement
of the entry where `A` holds of the record. -/
structure PortRecord.Kept (D : PortConfig → Int → Prop) (A : PortRecord → Prop) (I : PortConfig → PortRecord → Prop) : Prop where
  steps : ∀ {c r r'}, c.FiguresFit → I c r → PortRecord.Leads c (D c) r r' → I c r'
  undesired : ∀ {c r}, I c r → I c { r with desired := none }
  rested : ∀ {c r} (c' : PortConfig) (n : Nat), c'.FiguresFit → A r → I c r → I c' { r with silence := n, committed := c'.rest }

/-- Every effect keeps the port table's figures and a law of single entries and records. -/
theorem State.Course.keeps {D : PortConfig → Int → Prop} {A : PortRecord → Prop} {I : PortConfig → PortRecord → Prop} (keeps : PortRecord.Kept D A I)
    {s w : State} (course : s.Course w) (table : s.TableInRange) (h : ∀ p, I (s.config p) (s.record p))
    (idle : s.mode = .standby ∨ s.readProgress = .reading → ∀ p, A (s.record p))
    (desires : s.mode = .governing → s.prepareFrame.Desires fun p => D (s.config p)) : w.TableInRange ∧ ∀ p, I (w.config p) (w.record p) := by
  have moved {t : State} (m : s.Moves (fun p => D (s.config p)) t) : t.TableInRange ∧ ∀ p, I (t.config p) (t.record p) :=
    ⟨m.tableInRange table, fun p => by rw [m.config]; exact keeps.steps (table p) (h p) (m.records p)⟩
  have primed {t : State} (m : t.TableInRange ∧ ∀ p, I (t.config p) (t.record p)) :
      t.enterPriming.TableInRange ∧ ∀ p, I (t.enterPriming.config p) (t.enterPriming.record p) :=
    ⟨fun p => by rw [State.config_enterPriming]; exact m.1 p, fun p => by
      rw [State.config_enterPriming, State.record_enterPriming]; exact keeps.undesired (m.2 p)⟩
  cases course with
  | moves m => exact moved (m _)
  | loaded memory reading =>
    rcases s.endLoading_cases memory with ⟨c, ok, eq⟩ | ⟨e, _, eq⟩
    · rw [eq]
      refine primed ⟨fun p => judgeImage_ports ok p, fun p => ?_⟩
      rw [State.config_loadedWith, State.record_loadedWith]
      exact keeps.rested _ _ (judgeImage_ports ok p) (idle (.inr reading) p) (h p)
    · rw [eq]
      refine moved (State.Moves.trans (t := { s with readProgress := .idle, checkResult := e }) ?_ (.enterStandby _))
      exact .of_records rfl rfl fun _ => rfl
  | frame => exact moved (.frame s desires)
  | stopped t m => exact moved ((m _).trans (.enterStandby t))
  | site t f site l m =>
    have kept := moved (m _)
    exact kept
  | port t f q c l m standby same heard found =>
    obtain ⟨tableKept, kept⟩ := moved (m _)
    have fit : c.FiguresFit := PortConfig.figuresFit_of_inRange (portConfigOf_inRange found)
    have config (p : Port) := t.config_set q p c
    have record (p : Port) := t.record_setRecord q p { t.record q with committed := c.rest }
    refine ⟨fun p => ?_, fun p => ?_⟩
    · have figures : ((t.portTable.set q c)[p]).FiguresFit := by
        rw [config]
        split
        exacts [fit, tableKept p]
      exact figures
    · have law : I (t.portTable.set q c)[p] ((t.setRecord q { t.record q with committed := c.rest }).record p) := by
        rw [config, record]
        split
        case isTrue =>
          obtain ⟨n, silence⟩ := heard q
          rw [silence]
          exact keeps.rested (r := s.record q) c n fit (idle (.inl standby) q) (h q)
        case isFalse => exact kept p
      exact law
  | started t m => exact primed (moved (m _))

/-! ### Figures of a record -/

/-- The figures of a record that the reference rests on (R77, R81, R124). -/
structure PortRecord.FiguresFit (c : PortConfig) (r : PortRecord) : Prop where
  output : 0 ≤ r.cluster.output
  available : 0 ≤ r.cluster.available
  discharge : 0 ≤ r.storage.discharge
  dischargeAvailability : 0 ≤ r.storage.dischargeAvailability
  stale : c.role = .storage → r.participation = .stale → 0 ≤ r.committed

theorem clamp_nonneg {b : Int} (h : 0 ≤ b) (v : Int) : 0 ≤ clamp 0 b v := by
  unfold clamp
  split_ifs <;> omega

theorem PortConfig.rest_nonneg {c : PortConfig} (fit : c.FiguresFit) : 0 ≤ c.rest := by
  obtain ⟨_, fallback, _⟩ := fit
  unfold PortConfig.rest
  split
  exacts [fallback, le_refl _]

theorem PortRecord.Step.figuresFit {c : PortConfig} {D : Int → Prop} {r r' : PortRecord} (fit : c.FiguresFit) (h : r.FiguresFit c)
    (step : PortRecord.Step c D r r') : r'.FiguresFit c := by
  have rest := PortConfig.rest_nonneg fit
  obtain ⟨rated, _, _⟩ := fit
  cases step with
  | opened => exact ⟨h.output, h.available, h.discharge, h.dischargeAvailability, fun _ stale => by cases stale⟩
  | formed =>
    refine ⟨h.output, h.available, h.discharge, ?_, h.stale⟩
    show 0 ≤ Machine.dischargeAvailability c r.storage
    unfold Machine.dischargeAvailability
    split
    exacts [le_refl _, le_min h.discharge rated]
  | timedOut =>
    refine ⟨h.output, h.available, h.discharge, h.dischargeAvailability, fun storage _ => ?_⟩
    simp only [PortRecord.timedOut, storage, if_true]
    exact le_max_right _ _
  | silenced =>
    exact ⟨h.output, h.available, h.discharge, h.dischargeAvailability, fun _ _ => rest.trans (le_max_right _ _)⟩
  | joined => exact ⟨rest, rest, le_refl _, le_refl _, fun _ stale => by cases stale⟩
  | left => exact ⟨h.output, h.available, h.discharge, h.dischargeAvailability, fun _ stale => by cases stale⟩
  | fullyYielded => exact ⟨h.output, h.available, h.discharge, h.dischargeAvailability, fun _ stale => by cases stale⟩
  | partlyYielded =>
    refine ⟨h.output, h.available, h.discharge, h.dischargeAvailability, fun storage stale => ?_⟩
    have stale : r.participation = .stale := stale
    simp only [PortRecord.partlyYielded, storage, stale, and_self, if_true]
    exact le_max_right _ _
  | clusterStored => exact ⟨clamp_nonneg rated _, clamp_nonneg rated _, h.discharge, h.dischargeAvailability, h.stale⟩
  | storageStored => exact ⟨h.output, h.available, clamp_nonneg rated _, h.dischargeAvailability, h.stale⟩
  | returned v =>
    rcases r.returned_cases v with ⟨u, _, _, eq⟩ | eq
    all_goals
      rw [PortRecord.returnedSent, eq]
      exact ⟨h.output, h.available, h.discharge, h.dischargeAvailability, fun _ stale => by cases stale⟩
  | _ => exact ⟨h.output, h.available, h.discharge, h.dischargeAvailability, h.stale⟩

theorem PortRecord.Grant.figuresFit {c : PortConfig} {r r' : PortRecord} (h : r.FiguresFit c) (grant : PortRecord.Grant r r') : r'.FiguresFit c := by
  obtain ⟨g, d, active⟩ := grant
  refine ⟨h.output, h.available, h.discharge, h.dischargeAvailability, fun _ stale => ?_⟩
  have stale : r.participation = .stale := stale
  rcases active with engaged | recalling
  · rw [engaged] at stale; cases stale
  · rw [recalling] at stale; cases stale

theorem PortRecord.figuresFit_kept : PortRecord.Kept (fun _ _ => True) (fun _ => True) fun c r => r.FiguresFit c where
  steps fit h leads := by
    induction leads with
    | refl => exact h
    | tail _ step ih => exact step.elim (fun step => step.figuresFit fit ih) fun grant => grant.figuresFit ih
  undesired h := ⟨h.output, h.available, h.discharge, h.dischargeAvailability, h.stale⟩
  rested c' n fit _ h := ⟨h.output, h.available, h.discharge, h.dischargeAvailability, fun _ _ => PortConfig.rest_nonneg fit⟩

theorem State.FiguresKept.records {s : State} (h : s.FiguresKept) (p : Port) : (s.record p).FiguresFit (s.config p) where
  output := (h.clusters p).1
  available := (h.clusters p).2
  discharge := (h.discharges p).1
  dischargeAvailability := (h.discharges p).2
  stale := h.stale p

/-! ### The target and the greatest discharge -/

theorem portSum_nonneg {f : Port → Int} (h : ∀ p, 0 ≤ f p) : 0 ≤ portSum f := by
  rw [portSum_eq_sum]
  exact Finset.sum_nonneg fun p _ => h p

theorem State.leadRatio_nonneg {s : State} (ratios : ∀ c, 0 ≤ (s.channel c).ratio) (profile : Profile) (p : Port) : 0 ≤ s.leadRatio profile p := by
  unfold State.leadRatio
  split
  · split
    · decide
    · split
      exacts [ratios _, by decide]
  · decide

theorem State.targetFigure_nonneg {s : State} (table : s.TableInRange) (records : ∀ p, (s.record p).FiguresFit (s.config p))
    (ratios : ∀ c, 0 ≤ (s.channel c).ratio) (profile : Profile) (p : Port) : 0 ≤ s.targetFigure profile p := by
  have forecast : 0 ≤ s.forecast profile p :=
    Int.ediv_nonneg (mul_nonneg (records p).available (s.leadRatio_nonneg ratios profile p)) (by decide)
  unfold State.targetFigure
  split
  · split
    exacts [forecast, forecast, (records p).output, (table p).2.1]
  · exact le_refl _

/-- T lies in [0, E] (R10). -/
theorem State.targetPower_mem {s : State} (table : s.TableInRange) (limit : 0 ≤ s.site.exportLimit)
    (records : ∀ p, (s.record p).FiguresFit (s.config p)) (ratios : ∀ c, 0 ≤ (s.channel c).ratio) (profile : Profile) :
    0 ≤ s.targetPower profile ∧ s.targetPower profile ≤ s.site.exportLimit :=
  ⟨le_min limit (portSum_nonneg (s.targetFigure_nonneg table records ratios profile)), min_le_left _ _⟩

theorem State.greatestDischarge_nonneg {s : State} (records : ∀ p, (s.record p).FiguresFit (s.config p)) : 0 ≤ s.greatestDischarge := by
  have engaged : 0 ≤ s.engagedDischarge := by
    unfold State.engagedDischarge State.storageSum
    refine portSum_nonneg fun p => ?_
    split
    exacts [(records p).dischargeAvailability, le_refl _]
  have fixed : 0 ≤ s.fixedStorage := by
    unfold State.fixedStorage
    refine portSum_nonneg fun p => ?_
    split
    case isTrue fixed => exact (records p).stale fixed.1 fixed.2
    case isFalse => exact le_refl _
  exact add_nonneg engaged fixed

/-- The reference that a governing frame computes lies in [0, E] (R13 to R17). -/
theorem State.frameStages_mem {s : State} (table : s.TableInRange) (limit : 0 ≤ s.site.exportLimit)
    (records : ∀ p, (s.record p).FiguresFit (s.config p)) (ratios : ∀ c, 0 ≤ (s.channel c).ratio)
    (reference : 0 ≤ s.reference ∧ s.reference ≤ s.site.exportLimit) :
    0 ≤ s.frameStages.reference ∧ s.frameStages.reference ≤ s.site.exportLimit := by
  have moved : s.Moves (fun _ _ => True) s.readied := .readied s
  have ready (p : Port) : (s.readied.record p).FiguresFit (s.readied.config p) := by
    rw [moved.config]
    exact PortRecord.figuresFit_kept.steps (table p) (records p) (moved.records p)
  obtain ⟨low, high⟩ := State.targetPower_mem (s := s.readied) (moved.tableInRange table) limit ready ratios s.activeProfile
  obtain ⟨⟨nonneg, le, _⟩, _⟩ := stagesBoundTheReference s.activeProfile s.site.exportLimit s.reference (s.readied.targetPower s.activeProfile)
    s.readied.greatestDischarge (s.readied.windowMin s.activeProfile.window) (s.readied.windowMax s.activeProfile.window)
    reference.1 reference.2 low high (State.greatestDischarge_nonneg ready)
  exact ⟨nonneg, le⟩

/-! ### The law -/

/-- The reference lies in [0, E] while the part runs (R4). -/
def State.ReferenceFits (s : State) : Prop := s.mode.running = true → 0 ≤ s.reference ∧ s.reference ≤ s.site.exportLimit

theorem State.ReferenceFits.congr {s t : State} (h : s.ReferenceFits) (running : t.mode.running = true → s.mode.running = true)
    (reference : t.reference = s.reference) (site : t.site = s.site) : t.ReferenceFits := fun runs => by
  rw [reference, site]
  exact h (running runs)

theorem State.ReferenceFits.of_frame {s t : State} (h : s.ReferenceFits) (frame : t.frame = s.frame) : t.ReferenceFits :=
  h.congr (fun runs => State.mode_of_frame frame ▸ runs) (State.reference_of_frame frame) (State.site_of_frame frame)

theorem State.ReferenceFits.of_idle {t : State} (h : t.mode.running = false) : t.ReferenceFits := fun runs => by
  rw [h] at runs
  cases runs

theorem State.referenceFits_enterPriming {s : State} (limit : 0 ≤ s.site.exportLimit) : s.enterPriming.ReferenceFits := by
  obtain ⟨r, l, eq⟩ := s.enterPriming_eq
  rw [eq]
  exact fun _ => ⟨le_refl _, limit⟩

theorem State.referenceFits_enterStandby (s : State) : s.enterStandby.ReferenceFits := by
  obtain ⟨r, l, eq⟩ := s.enterStandby_eq
  rw [eq]
  exact .of_idle rfl

theorem clamp_mem {a b : Int} (h : a ≤ b) (v : Int) : a ≤ clamp a b v ∧ clamp a b v ≤ b := by
  unfold clamp
  split_ifs <;> omega

theorem State.referenceFits_workFrame {s : State} (table : s.TableInRange) (limit : 0 ≤ s.site.exportLimit)
    (records : ∀ p, (s.record p).FiguresFit (s.config p)) (ratios : ∀ c, 0 ≤ (s.channel c).ratio) (reference : s.ReferenceFits) :
    s.workFrame.ReferenceFits := by
  unfold State.workFrame
  split
  case h_1 priming =>
    cases primed : s.primed s.primingCount with
    | none =>
      obtain ⟨r, l, eq⟩ := State.primeFrame_eq_of_none primed
      rw [eq]; exact reference.congr id rfl rfl
    | some power =>
      obtain ⟨r, l, eq⟩ := State.primeFrame_eq_of_some primed
      rw [eq]; exact fun _ => clamp_mem limit power
  case h_2 governing =>
    have computed := State.frameStages_mem table limit records ratios (reference (by rw [governing]; rfl))
    obtain ⟨_, _, _, _, _, _, _, _, eq⟩ := s.divided_eq
    rw [State.governFrame_eq]
    refine State.ReferenceFits.of_frame ?_ (State.frame_emitFrame _)
    rw [eq]
    exact fun _ => computed
  case h_3 =>
    obtain ⟨_, _, _, _, _, _, _, eq⟩ := s.holdFrame_eq
    rw [eq]; exact reference.congr id rfl rfl
  · exact reference
  · exact reference

/-- Every effect keeps E off the negative numbers. -/
theorem State.Effect.exportLimit {s w : State} (e : s.Effect w) (limit : 0 ≤ s.site.exportLimit) : 0 ≤ w.site.exportLimit := by
  cases e.course with
  | moves m => rw [(m fun _ _ => True).site]; exact limit
  | loaded memory =>
    rcases s.endLoading_cases memory with ⟨c, ok, eq⟩ | ⟨e, _, eq⟩
    · rw [eq, State.site_enterPriming, State.site_loadedWith]; exact judgeImage_exportLimit ok
    · rw [eq, (State.Moves.enterStandby (D := fun _ _ => True) _).site]; exact limit
  | frame => rw [(State.Moves.frame (D := fun _ _ => True) s fun _ => ⟨fun _ _ _ => trivial, fun _ _ _ => trivial⟩).site]; exact limit
  | stopped t m => rw [(State.Moves.enterStandby (D := fun _ _ => True) t).site, (m fun _ _ => True).site]; exact limit
  | site t f site l _ _ _ found => exact siteOf_exportLimit found
  | port t f p c l m =>
    show 0 ≤ t.site.exportLimit
    rw [(m fun _ _ => True).site]; exact limit
  | started t m => rw [State.site_enterPriming, (m fun _ _ => True).site]; exact limit

theorem State.Effect.referenceFits {s w : State} (e : s.Effect w) (h : s.FiguresKept) : w.ReferenceFits := by
  have reference : s.ReferenceFits := h.reference
  have limit := e.exportLimit h.limit
  cases e.shape with
  | loaded memory _ eq =>
    rcases s.endLoading_cases memory with ⟨c, ok, loaded⟩ | ⟨e, _, loaded⟩
    · rw [eq, loaded]
      exact State.referenceFits_enterPriming (by rw [State.site_loadedWith]; exact judgeImage_exportLimit ok)
    · rw [eq, loaded]; exact State.referenceFits_enterStandby _
  | expired _ eq =>
    have moved : s.Moves (fun _ _ => True) s.prepareFrame := .prepareFrame s
    rw [eq]
    refine State.referenceFits_workFrame (moved.tableInRange h.table) (by rw [moved.site]; exact h.limit) (fun p => ?_) (fun c => ?_) ?_
    · rw [moved.config]
      exact PortRecord.figuresFit_kept.steps (h.table p) (h.records p) (moved.records p)
    · rw [State.channel_prepareFrame]; exact h.ratios c
    · obtain ⟨_, _, _, _, _, eq⟩ := s.prepareFrame_eq
      rw [eq]; exact reference.congr id rfl rfl
  | scanned _ _ eq =>
    obtain ⟨_, _, visited⟩ := State.visit_eq (List.finRange 16) s
    rw [eq, visited]; exact reference.congr id rfl rfl
  | sampled scan v _ eq =>
    obtain ⟨m, _, mode, sampled⟩ := s.sampleChannel_eq scan.channel v
    obtain ⟨_, _, visited⟩ := State.visit_eq (channelsAfter scan.channel) (s.sampleChannel scan.channel v)
    rw [eq, State.scanOn, visited, sampled]
    refine reference.congr (fun runs => ?_) rfl rfl
    rcases mode with rfl | ⟨holding, _⟩
    exacts [runs, by rw [holding]; rfl]
  | missed scan _ eq =>
    obtain ⟨_, _, visited⟩ := State.visit_eq (channelsAfter scan.channel) (s.missChannel scan.channel)
    obtain ⟨_, ⟨missed, _⟩ | ⟨governing, _, missed⟩⟩ := s.missChannel_eq scan.channel
    · rw [eq, State.scanOn, visited, missed]; exact reference.congr id rfl rfl
    · rw [eq, State.scanOn, visited, missed]
      exact reference.congr (fun _ => by rw [governing]; rfl) rfl rfl
  | site f site standby _ frame =>
    refine .of_idle ?_
    rw [State.mode_of_frame frame]
    exact congrArg Mode.running standby
  | started t _ _ frame eq =>
    rw [eq, State.site_enterPriming] at limit
    rw [eq]; exact State.referenceFits_enterPriming limit
  | stopped t _ _ eq => rw [eq]; exact State.referenceFits_enterStandby t
  | kept frame => exact reference.of_frame frame
  | _ => refine State.ReferenceFits.of_frame ?_ ‹_›; exact reference.congr id rfl rfl

theorem State.FiguresKept.of_parts {t : State} (table : t.TableInRange) (limit : 0 ≤ t.site.exportLimit)
    (records : ∀ p, (t.record p).FiguresFit (t.config p)) (ratios : ∀ c, 0 ≤ (t.channel c).ratio) (reference : t.ReferenceFits) : t.FiguresKept where
  table := table
  limit := limit
  clusters p := ⟨(records p).output, (records p).available⟩
  discharges p := ⟨(records p).discharge, (records p).dischargeAvailability⟩
  stale p := (records p).stale
  ratios := ratios
  reference := reference

/-- Settles O59: a governing frame's reference is bounded by its stages, and every other event leaves R, seeds it within [0, E] or sets it to 0. -/
theorem stepsKeepTheReferenceWithinTheLimit : Obligations.StepsKeepTheReferenceWithinTheLimit := by
  intro s t figures stepped
  refine step_keeps (P := State.FiguresKept) (Q := State.FiguresKept) ?_ ?_ ?_ ?_ ?_ figures stepped
  · exact fun s rest h => ⟨h.table, h.limit, h.clusters, h.discharges, h.stale, h.ratios, h.reference⟩
  · exact fun s cause => (State.atStart_restarted s cause).figuresKept
  · exact fun s p r h => ⟨h.table, h.limit, h.clusters, h.discharges, h.stale, h.ratios, h.reference⟩
  · intro s w h e
    obtain ⟨table, records⟩ := e.course.keeps PortRecord.figuresFit_kept h.table h.records (fun _ _ => trivial)
      fun _ => ⟨fun _ _ _ => trivial, fun _ _ _ => trivial⟩
    exact .of_parts table (e.exportLimit h.limit) records (e.channels (Channel.ratio_kept fun _ fits => fits.1) (fun _ _ => trivial) h.ratios) (e.referenceFits h)
  · exact fun w h => ⟨h.table, h.limit, h.clusters, h.discharges, h.stale, h.ratios, h.reference⟩

end Sys2Proof.Machine
end

section
/-! The cross-checks (O7). -/

namespace Sys2Proof.Machine

theorem length_filter_finRange {n : Nat} (test : Fin n → Bool) (holds : Fin n → Prop) [DecidablePred holds] (same : ∀ i, test i = true ↔ holds i) :
    ((List.finRange n).filter test).length = (Finset.univ.filter holds).card := by
  have eq : (Finset.univ.filter fun i => test i = true).card = ((List.finRange n).filter test).length := by
    simp only [Finset.card, Finset.filter_val, Fin.univ_def, Multiset.filter_coe, Multiset.coe_card, Bool.decide_eq_true]
  rw [← eq]
  exact congrArg Finset.card (Finset.filter_congr fun i _ => same i)

theorem Configuration.roleCount_eq (c : Configuration) (role : Role) :
    c.roleCount role = (Finset.univ.filter fun p : Port => c.ports[p].role = role).card :=
  length_filter_finRange _ _ fun p => by simp

/-- Exactly one channel has the kind (R141, check 1). -/
theorem Configuration.kindCount_eq_one_iff (c : Configuration) (kind : ChannelKind) :
    c.kindCount kind = 1 ↔ ∃! i : ChannelIndex, c.channels[i].kind = kind := by
  have count : c.kindCount kind = (Finset.univ.filter fun i : ChannelIndex => c.channels[i].kind = kind).card :=
    length_filter_finRange _ _ fun i => by simp
  rw [count, Finset.card_eq_one, Finset.singleton_iff_unique_mem]
  simp

theorem Configuration.roleCount_eq_zero_iff (c : Configuration) (role : Role) : c.roleCount role = 0 ↔ ¬∃ p : Port, c.ports[p].role = role := by
  rw [c.roleCount_eq, Finset.card_eq_zero, Finset.filter_eq_empty_iff]
  simp

theorem Configuration.everyCluster_iff (c : Configuration) (test : PortConfig → Bool) :
    c.everyCluster test = true ↔ ∀ p : Port, c.ports[p].role = .cluster → test c.ports[p] = true := by
  simp only [Configuration.everyCluster, List.all_eq_true, List.mem_finRange, true_imp_iff, Bool.or_eq_true, bne_iff_ne]
  exact forall_congr' fun p => by tauto

theorem Configuration.fallbackSum_eq (c : Configuration) :
    c.fallbackSum = ∑ p : Port, if c.ports[p].role = .cluster then c.ports[p].fallback else 0 := by
  rw [Configuration.fallbackSum, portSum_eq_sum]
  refine Finset.sum_congr rfl fun p _ => ?_
  unfold PortConfig.rest
  split <;> simp_all

theorem Configuration.leadFits_iff (c : Configuration) (entry : PortConfig) :
    c.leadFits entry = true ↔ ∀ i : ChannelIndex, entry.lead = some i → c.channels[i].kind = .irradiance := by
  unfold Configuration.leadFits
  split <;> simp_all

/-- The check result by the first condition of seven that fails (R141). -/
def firstFailure (meter cluster roles rated fallback total leads : Prop) [Decidable meter] [Decidable cluster] [Decidable roles] [Decidable rated]
    [Decidable fallback] [Decidable total] [Decidable leads] : CheckResult :=
  if ¬meter then .noMeter else if ¬cluster then .noCluster else if ¬roles then .roleCount else if ¬rated then .rating
  else if ¬fallback then .fallback else if ¬total then .fallbackSum else if ¬leads then .lead else .passed

theorem firstFailure_spec (meter cluster roles rated fallback total leads : Prop) [Decidable meter] [Decidable cluster] [Decidable roles]
    [Decidable rated] [Decidable fallback] [Decidable total] [Decidable leads] :
    let result := firstFailure meter cluster roles rated fallback total leads
    (result = .passed ↔ meter ∧ cluster ∧ roles ∧ rated ∧ fallback ∧ total ∧ leads) ∧
    (¬meter → result = .noMeter) ∧
    (meter → ¬cluster → result = .noCluster) ∧
    (meter → cluster → ¬roles → result = .roleCount) ∧
    (meter → cluster → roles → ¬rated → result = .rating) ∧
    (meter → cluster → roles → rated → ¬fallback → result = .fallback) ∧
    (meter → cluster → roles → rated → fallback → ¬total → result = .fallbackSum) ∧
    (meter → cluster → roles → rated → fallback → total → ¬leads → result = .lead) := by
  intro result
  refine ⟨⟨fun passed => ?_, fun ⟨m, cl, r, ra, f, t, l⟩ => by simp [result, firstFailure, m, cl, r, ra, f, t, l]⟩, ?_⟩
  · unfold result firstFailure at passed
    split_ifs at passed
    simp_all
  · refine ⟨?_, ?_, ?_, ?_, ?_, ?_, ?_⟩ <;> (intros; simp [result, firstFailure, *])

/-- Settles O7, check by check in the table's order. -/
theorem crossChecksPassExactlyWhenAllHold : Obligations.CrossChecksPassExactlyWhenAllHold := by
  classical
  intro c meter cluster roles rated fallback total leads
  have hMeter : c.kindCount .poiPower ≠ 1 ↔ ¬meter := not_congr (c.kindCount_eq_one_iff .poiPower)
  have hCluster : c.roleCount .cluster = 0 ↔ ¬cluster := c.roleCount_eq_zero_iff .cluster
  have hRoles : (10 < c.roleCount .cluster ∨ 2 < c.roleCount .storage ∨ 2 < c.roleCount .supervisor) ↔ ¬roles := by
    rw [c.roleCount_eq, c.roleCount_eq, c.roleCount_eq]
    simp only [roles, not_and_or, not_le]
  have hRated : (!c.everyCluster fun p => p.rated ≤ c.site.exportLimit) = true ↔ ¬rated := by
    rw [Bool.not_eq_true', ← Bool.not_eq_true, c.everyCluster_iff]
    simp [rated]
  have hFallback : (!c.everyCluster fun p => p.fallback ≤ p.rated) = true ↔ ¬fallback := by
    rw [Bool.not_eq_true', ← Bool.not_eq_true, c.everyCluster_iff]
    simp [fallback]
  have hTotal : c.site.exportLimit < c.fallbackSum ↔ ¬total := by
    rw [c.fallbackSum_eq]
    exact not_le.symm
  have hLeads : (!c.everyCluster c.leadFits) = true ↔ ¬leads := by
    rw [Bool.not_eq_true', ← Bool.not_eq_true, c.everyCluster_iff]
    simp only [c.leadFits_iff]
    exact not_congr ⟨fun h p i role lead => h p role i lead, fun h p role i lead => h p i role lead⟩
  have check : c.crossCheck = firstFailure meter cluster roles rated fallback total leads := by
    simp only [Configuration.crossCheck, firstFailure, hMeter, hCluster, hRoles, hRated, hFallback, hTotal, hLeads]
  rw [check]
  exact firstFailure_spec meter cluster roles rated fallback total leads

end Sys2Proof.Machine
end

section
/-! The exported commitment within E (O56). -/

namespace Sys2Proof.Machine

/-! ### The law of a record -/

/-- What R108, R109, R111 and R112 ask of a record: the recall below the committed value, no last-sent value above it, an outstanding recall exactly at a
RECALLING port of those that are steered, and nothing standing at an ABSENT one. -/
structure PortRecord.Sound (r : PortRecord) : Prop where
  below : r.Below
  lastSent : r.participation ≠ .absent → ∀ v, r.lastSent = some v → v ≤ r.committed
  engaged : r.participation = .engaged → r.outstanding = none
  recalling : r.participation = .recalling → r.outstanding ≠ none
  absent : r.participation = .absent → r.outstanding = none ∧ r.staged = none ∧ r.desired = none

theorem PortRecord.Active.not_absent {r : PortRecord} (h : r.Active) : r.participation ≠ .absent := by
  rcases h with h | h <;> rw [h] <;> simp

theorem PortRecord.canFallSilent_iff (r : PortRecord) :
    r.canFallSilent = true ↔ r.participation ≠ .absent ∧ ¬(r.participation = .stale ∧ r.cause = some .silence) := by
  simp only [PortRecord.canFallSilent, PortRecord.silent, Bool.and_eq_true, bne_iff_ne, Bool.not_eq_true', ← Bool.not_eq_true, beq_iff_eq]

theorem PortRecord.silent_iff (r : PortRecord) : r.silent = true ↔ r.participation = .stale ∧ r.cause = some .silence := by
  simp [PortRecord.silent]

/-- A record whose standing and recall are as they were, with a last-sent value that may be new. -/
theorem PortRecord.Sound.same {r r' : PortRecord} (h : r.Sound) (part : r'.participation = r.participation) (out : r'.outstanding = r.outstanding)
    (committed : r'.committed = r.committed) (sent : r'.lastSent = r.lastSent ∨ ∃ v, r'.lastSent = some v ∧ v ≤ r.committed)
    (absent : r.participation = .absent → r'.staged = none ∧ r'.desired = none) : r'.Sound where
  below u recalled := by rw [committed]; exact h.below u (out ▸ recalled)
  lastSent present v last := by
    rw [committed]
    rcases sent with same | ⟨w, new, le⟩
    · exact h.lastSent (part ▸ present) v (same ▸ last)
    · cases new.symm.trans last; exact le
  engaged e := out.trans (h.engaged (part.symm.trans e))
  recalling e := by rw [out]; exact h.recalling (part.symm.trans e)
  absent a := ⟨out.trans (h.absent (part.symm.trans a)).1, absent (part.symm.trans a)⟩

theorem PortRecord.Step.sound {c : PortConfig} {D : Int → Prop} {r r' : PortRecord} (h : r.Sound) (step : PortRecord.Step c D r r') : r'.Sound := by
  have below := step.below h.below
  have unchanged (a : r.participation = .absent) : r.staged = none ∧ r.desired = none := (h.absent a).2
  cases step with
  | kept => exact h.same rfl rfl rfl (.inr ⟨_, rfl, le_refl _⟩) unchanged
  | lowered u recalled => exact h.same rfl rfl rfl (.inr ⟨_, rfl, (h.below u recalled).le⟩) unchanged
  | opened d n active _ _ lower =>
    refine ⟨below, ?_, nofun, fun _ => by simp, nofun⟩
    rintro _ v ⟨⟩
    exact lower.le
  | deepened d u active recalled _ lower =>
    refine ⟨below, ?_, fun engaged => ?_, fun _ => by simp, fun absent => absurd absent active.not_absent⟩
    · rintro _ v ⟨⟩
      exact (lower.trans (h.below u recalled)).le
    · rw [h.engaged engaged] at recalled; cases recalled
  | unstaged => exact h.same rfl rfl rfl (.inl rfl) fun a => ⟨rfl, (unchanged a).2⟩
  | staged d active => exact h.same rfl rfl rfl (.inl rfl) fun a => absurd a active.not_absent
  | wanted d ok =>
    refine h.same rfl rfl rfl (.inl rfl) fun a => ⟨(unchanged a).1, ?_⟩
    cases d with
    | none => rfl
    | some v => exact absurd a (ok v rfl).1.not_absent
  | timedOut recalling =>
    have rises : r.committed ≤ (r.timedOut c).committed := by
      simp only [PortRecord.timedOut]
      split <;> omega
    exact ⟨below, fun _ v last => (h.lastSent (by rw [recalling]; simp) v last).trans rises, nofun, nofun, nofun⟩
  | silenced can =>
    have present := ((PortRecord.canFallSilent_iff r).1 can).1
    exact ⟨below, fun _ v last => (h.lastSent present v last).trans (le_max_left _ _), nofun, nofun, nofun⟩
  | joined =>
    refine ⟨below, ?_, fun _ => rfl, nofun, nofun⟩
    rintro _ v ⟨⟩
    exact le_refl _
  | left => exact ⟨below, fun present => absurd rfl present, nofun, nofun, fun _ => ⟨rfl, rfl, rfl⟩⟩
  | fullyYielded u v =>
    refine ⟨below, ?_, fun _ => rfl, nofun, nofun⟩
    rintro _ w ⟨⟩
    exact le_refl _
  | partlyYielded u v recalled =>
    refine ⟨below, ?_, h.engaged, h.recalling, h.absent⟩
    rintro _ w ⟨⟩
    simp only [PortRecord.partlyYielded]
    split <;> omega
  | returned v silent =>
    rcases r.returned_cases v with ⟨u, _, stands, eq⟩ | eq
    all_goals
      rw [PortRecord.returnedSent, eq] at below ⊢
      refine ⟨below, ?_, ?_, ?_, nofun⟩
    · rintro _ w ⟨⟩; exact stands.le
    · nofun
    · exact fun _ => by simp
    · rintro _ w ⟨⟩; exact le_refl _
    · exact fun _ => rfl
    · nofun
  | _ => exact h.same rfl rfl rfl (.inl rfl) unchanged

theorem PortRecord.Grant.sound {r r' : PortRecord} (h : r.Sound) (grant : PortRecord.Grant r r') : r'.Sound := by
  have below := grant.below
  obtain ⟨g, d, active, alone⟩ := grant
  refine ⟨below, ?_, fun _ => alone, h.recalling, fun absent => absurd absent active.not_absent⟩
  rintro _ v ⟨⟩
  exact le_refl _

theorem PortRecord.Leads.sound {c : PortConfig} {D : Int → Prop} {r r' : PortRecord} (h : r.Sound) (leads : PortRecord.Leads c D r r') : r'.Sound := by
  induction leads with
  | refl => exact h
  | tail _ step ih => exact step.elim (fun step => step.sound ih) fun grant => grant.sound ih

/-- A sound record that counts for fb or 0 while it is ABSENT (R108). -/
structure PortRecord.Rests (c : PortConfig) (r : PortRecord) : Prop where
  sound : r.Sound
  rest : r.participation = .absent → r.committed = c.rest

theorem PortRecord.Step.rests {c : PortConfig} {D : Int → Prop} {r r' : PortRecord} (h : r.Rests c) (step : PortRecord.Step c D r r') : r'.Rests c := by
  refine ⟨step.sound h.sound, ?_⟩
  cases step with
  | left => exact fun _ => rfl
  | partlyYielded u v recalled =>
    intro absent
    rw [(h.sound.absent absent).1] at recalled
    cases recalled
  | returned v =>
    rcases r.returned_cases v with ⟨u, _, _, eq⟩ | eq
    all_goals
      rw [PortRecord.returnedSent, eq]
      nofun
  | opened => nofun
  | timedOut => nofun
  | silenced => nofun
  | joined => nofun
  | fullyYielded => nofun
  | _ => exact h.rest

theorem PortRecord.Leads.rests {c : PortConfig} {D : Int → Prop} {r r' : PortRecord} (h : r.Rests c) (leads : PortRecord.Leads c D r r') : r'.Rests c := by
  induction leads with
  | refl => exact h
  | tail _ step ih =>
    refine step.elim (fun step => step.rests ih) fun grant => ⟨grant.sound ih.sound, ?_⟩
    obtain ⟨g, d, active⟩ := grant
    exact fun absent => absurd absent active.not_absent

theorem PortRecord.Sound.rested {r : PortRecord} (absent : r.participation = .absent) (h : r.Sound) (v : Int) (n : Nat) :
    { r with silence := n, committed := v }.Sound := by
  obtain ⟨none, unstaged, undesired⟩ := h.absent absent
  refine ⟨fun u recalled => ?_, fun present => absurd absent present, fun e => ?_, fun e => ?_, fun _ => ⟨none, unstaged, undesired⟩⟩
  · cases none.symm.trans recalled
  · cases absent.symm.trans e
  · cases absent.symm.trans e

theorem PortRecord.Sound.undesired {r : PortRecord} (h : r.Sound) : { r with desired := none }.Sound :=
  ⟨h.below, h.lastSent, h.engaged, h.recalling, fun a => ⟨(h.absent a).1, (h.absent a).2.1, rfl⟩⟩

theorem PortRecord.sound_kept : PortRecord.Kept (fun _ _ => True) (fun r => r.participation = .absent) fun _ r => r.Sound where
  steps _ h leads := leads.sound h
  undesired h := h.undesired
  rested _ _ _ absent h := h.rested absent _ _

theorem PortRecord.rests_kept : PortRecord.Kept (fun _ _ => True) (fun r => r.participation = .absent) fun c r => r.Rests c where
  steps _ h leads := leads.rests h
  undesired h := ⟨h.sound.undesired, h.rest⟩
  rested _ _ _ absent h := ⟨h.sound.rested absent _ _, fun _ => rfl⟩

/-! ### The law of the part -/

theorem State.CommitmentsKept.sound {s : State} (h : s.CommitmentsKept) (p : Port) : (s.record p).Sound where
  below u := h.recallBelow p u
  lastSent present v := h.lastSent p v present
  engaged e := by
    by_contra recalled
    have := (h.recalling p).2 ⟨.inl e, recalled⟩
    rw [e] at this
    cases this
  recalling e := ((h.recalling p).1 e).2
  absent := h.absent p

theorem State.CommitmentsKept.of_parts {t : State} (table : t.TableInRange) (sound : ∀ p, (t.record p).Sound)
    (resting : t.mode.idle → ∀ p, (t.record p).participation = .absent ∧ (t.record p).committed = (t.config p).rest)
    (withinLimit : t.mode.running = true → t.exportCommitment ≤ t.site.exportLimit) : t.CommitmentsKept where
  table := table
  resting idle p := ⟨(resting idle p).1, (resting idle p).2, ((sound p).absent (resting idle p).1).1⟩
  withinLimit := withinLimit
  recallBelow p u := (sound p).below u
  lastSent p v present := (sound p).lastSent present v
  recalling p := by
    refine ⟨fun e => ⟨.inr e, (sound p).recalling e⟩, fun ⟨active, recalled⟩ => active.resolve_left fun e => recalled ((sound p).engaged e)⟩
  absent p := (sound p).absent

theorem Mode.idle_iff (m : Mode) : m.idle ↔ m.running = false := by
  cases m <;> simp [Mode.idle, Mode.running]

/-- With every port at rest the exported commitment is the sum of the fallbacks (R110, R141). -/
theorem PortConfig.exportShare_rest (c : PortConfig) : c.exportShare c.rest = c.rest := by
  rw [c.exportShare_eq, PortConfig.rest]
  cases role : c.role <;> simp

theorem State.exportCommitment_of_rest {t : State} (rest : ∀ p, (t.record p).committed = (t.config p).rest) :
    t.exportCommitment = portSum fun p => (t.config p).rest :=
  portSum_congr fun p => by rw [rest, PortConfig.exportShare_rest]

theorem Configuration.fallbackSum_le {c : Configuration} (passed : c.crossCheck = .passed) : c.fallbackSum ≤ c.site.exportLimit := by
  obtain ⟨_, _, _, _, _, total, _⟩ := (crossChecksPassExactlyWhenAllHold c).1.1 passed
  rw [Configuration.fallbackSum_eq]
  exact total

theorem State.mode_enterPriming (s : State) : s.enterPriming.mode = .priming := by
  obtain ⟨r, l, eq⟩ := s.enterPriming_eq
  rw [eq]

theorem State.mode_enterStandby (s : State) : s.enterStandby.mode = .standby := by
  obtain ⟨r, l, eq⟩ := s.enterStandby_eq
  rw [eq]

theorem State.FollowsMode.absent_of_idle {s : State} (h : s.FollowsMode) (idle : s.mode = .standby ∨ s.readProgress = .reading) (p : Port) :
    (s.record p).participation = .absent :=
  h.absent (idle.elim .inr fun reading => .inl (h.reading.1 reading)) p

/-- PRIMING is entered with the exported commitment within the limit: every port is at rest, and the cross-checks have passed (R108, R141). -/
theorem State.withinLimit_enterPriming {t : State} (rest : ∀ p, (t.record p).committed = (t.config p).rest)
    (sum : (portSum fun p => (t.config p).rest) ≤ t.site.exportLimit) : t.enterPriming.exportCommitment ≤ t.enterPriming.site.exportLimit := by
  rw [State.exportCommitment_of_rest fun p => by rw [State.record_enterPriming, State.config_enterPriming]; exact rest p, State.site_enterPriming]
  exact (portSum_congr fun p => by rw [State.config_enterPriming]).trans_le sum

theorem State.Effect.withinLimit {s w : State} (e : s.Effect w) (h : s.CommitmentsKept) (runs : w.mode.running = true) :
    w.exportCommitment ≤ w.site.exportLimit := by
  have below (p : Port) := (h.sound p).below
  have moved {t : State} (m : s.Moves (fun _ _ => True) t) (was : s.mode.running = true) : t.exportCommitment ≤ t.site.exportLimit := by
    rw [m.site]
    exact (m.exported h.table below).trans (max_le (h.withinLimit was) (le_refl _))
  cases e.course with
  | moves m running => exact moved (m _) (running ▸ runs)
  | loaded memory =>
    rcases s.endLoading_cases memory with ⟨c, ok, eq⟩ | ⟨e, _, eq⟩
    · rw [eq]
      refine State.withinLimit_enterPriming (fun p => ?_) ?_
      · rw [State.record_loadedWith, State.config_loadedWith]
      · exact Configuration.fallbackSum_le (judgeImage_induction (P := fun _ => True) trivial (fun _ _ _ _ _ => trivial) ok).2
    · rw [eq, State.mode_enterStandby] at runs
      cases runs
  | frame due => exact moved (.frame s fun _ => ⟨fun _ _ _ => trivial, fun _ _ _ => trivial⟩) (State.frameDue_running due)
  | stopped t => rw [State.mode_enterStandby] at runs; cases runs
  | site t f site l _ standby same =>
    rw [same, standby] at runs
    cases runs
  | port t f p c l _ standby same =>
    rw [same, standby] at runs
    cases runs
  | started t m standby heard passed =>
    refine State.withinLimit_enterPriming (fun p => ?_) ?_
    · obtain ⟨n, eq⟩ := heard p
      rw [eq, (m fun _ _ => True).config]
      exact (h.resting (.inr standby) p).2.1
    · rw [(m fun _ _ => True).site]
      exact (portSum_congr fun p => by rw [(m fun _ _ => True).config]; rfl).trans_le (Configuration.fallbackSum_le passed)

/-- A part that runs goes on running through an expiry. -/
theorem State.running_workFrame {s : State} (running : s.mode.running = true) : s.workFrame.mode.running = true := by
  unfold State.workFrame
  split
  · cases primed : s.primed s.primingCount with
    | none =>
      obtain ⟨r, l, eq⟩ := State.primeFrame_eq_of_none primed
      rw [eq]; exact running
    | some power =>
      obtain ⟨r, l, eq⟩ := State.primeFrame_eq_of_some primed
      rw [eq]; rfl
  · obtain ⟨_, _, _, _, _, _, _, _, eq⟩ := s.divided_eq
    rw [State.governFrame_eq, State.mode_of_frame (State.frame_emitFrame _), eq]; exact running
  · obtain ⟨_, _, _, _, _, _, _, eq⟩ := s.holdFrame_eq
    rw [eq]; exact running
  · exact running
  · exact running

/-- Every effect keeps the law of commitments. -/
theorem State.Effect.commitmentsKept {s w : State} (e : s.Effect w) (follows : s.FollowsMode) (h : s.CommitmentsKept) : w.CommitmentsKept := by
  have desires : s.mode = .governing → s.prepareFrame.Desires fun _ _ => True := fun _ => ⟨fun _ _ _ => trivial, fun _ _ _ => trivial⟩
  obtain ⟨table, sound⟩ := e.course.keeps PortRecord.sound_kept h.table h.sound follows.absent_of_idle desires
  refine .of_parts table sound (fun idle p => ⟨(e.followsMode follows).absent idle p, ?_⟩) (e.withinLimit h)
  have absent := (e.followsMode follows).absent idle p
  by_cases was : s.mode.idle
  · have rests := (e.course.keeps PortRecord.rests_kept h.table (fun p => ⟨h.sound p, fun _ => (h.resting was p).2.1⟩) follows.absent_of_idle desires).2 p
    exact rests.rest absent
  · have ran : s.mode.running = true := by rw [Mode.idle_iff] at was; simpa using was
    cases e.course with
    | moves m running => rw [Mode.idle_iff, running, ran] at idle; cases idle
    | loaded memory reading => exact absurd (.inl (follows.reading.1 reading)) was
    | frame due =>
      rw [Mode.idle_iff, State.running_workFrame (by rwa [State.mode_prepareFrame])] at idle
      cases idle
    | stopped t m =>
      rw [State.record_enterStandby, (State.Moves.enterStandby (D := fun _ _ => True) t).config]
      rfl
    | site t f site l _ standby => exact absurd (.inr standby) was
    | port t f p c l _ standby => exact absurd (.inr standby) was
    | started t m standby => exact absurd (.inr standby) was

/-- Settles O56: grants go no further than the fit rule allows, every other step of a record counts for no more, and the cross-checks bound the fallbacks that
PRIMING starts from. -/
theorem stepsKeepTheCommitmentsWithinTheLimit : Obligations.StepsKeepTheCommitmentsWithinTheLimit := by
  intro s t follows sweep commitments stepped
  refine (step_keeps (P := fun s => s.FollowsMode ∧ s.CommitmentsKept) (Q := fun s => s.FollowsMode ∧ s.CommitmentsKept) ?_ ?_ ?_ ?_ ?_
    ⟨follows, commitments⟩ stepped).2
  · exact fun s rest ⟨f, c⟩ => ⟨f.congr rfl rfl rfl rfl rfl id fun _ _ a => a, .of_parts c.table c.sound (fun i p => ⟨(c.resting i p).1, (c.resting i p).2.1⟩) c.withinLimit⟩
  · exact fun s cause => ⟨(State.atStart_restarted s cause).followsMode, (State.atStart_restarted s cause).commitmentsKept⟩
  · exact fun s p r ⟨f, c⟩ => ⟨f.of_links rfl, .of_parts c.table c.sound (fun i p => ⟨(c.resting i p).1, (c.resting i p).2.1⟩) c.withinLimit⟩
  · exact fun s w ⟨f, c⟩ e => ⟨e.followsMode f, e.commitmentsKept f c⟩
  · exact fun w ⟨f, c⟩ => ⟨f.of_links rfl, .of_parts c.table c.sound (fun i p => ⟨(c.resting i p).1, (c.resting i p).2.1⟩) c.withinLimit⟩

end Sys2Proof.Machine
end

section
/-! Committed values within their ports' ratings (O60). -/

namespace Sys2Proof.Machine

/-! ### The ratings of an entry -/

/-- A cluster's fallback does not lie above its rating (R141). -/
def PortConfig.Proper (c : PortConfig) : Prop := c.role = .cluster → c.fallback ≤ c.rated

/-- A value within the port's range (R109). -/
def PortConfig.Holds (c : PortConfig) (v : Int) : Prop := c.least ≤ v ∧ v ≤ c.rated

section Entry
variable {c : PortConfig} (fit : c.FiguresFit)
include fit

theorem PortConfig.least_nonpos : c.least ≤ 0 := by
  obtain ⟨_, _, charge⟩ := fit
  unfold PortConfig.least
  split
  exacts [by omega, le_refl _]

theorem PortConfig.holds_clampValue (v : Int) : c.Holds (c.clampValue v) :=
  clamp_mem ((PortConfig.least_nonpos fit).trans fit.1) v

theorem PortConfig.rest_le (proper : c.Proper) : c.rest ≤ c.rated := by
  unfold PortConfig.rest
  split
  case h_1 role => exact proper role
  case h_2 => exact fit.1

theorem PortConfig.holds_rest (proper : c.Proper) : c.Holds c.rest :=
  ⟨(PortConfig.least_nonpos fit).trans (PortConfig.rest_nonneg fit), PortConfig.rest_le fit proper⟩

end Entry

/-! ### The law of a record -/

theorem clamp_zero_mem {b : Int} (h : 0 ≤ b) (v : Int) : 0 ≤ clamp 0 b v ∧ clamp 0 b v ≤ b := clamp_mem h v

theorem PortRecord.WithinRatings.joined {c : PortConfig} (fit : c.FiguresFit) (proper : c.Proper) (r : PortRecord) : (r.joined c).WithinRatings c where
  committed := PortConfig.holds_rest fit proper
  outstanding := nofun
  staged := nofun
  desired := nofun
  available _ := ⟨PortConfig.rest_nonneg fit, PortConfig.rest_le fit proper⟩
  discharge _ := ⟨le_refl _, fit.1⟩
  charge _ := ⟨le_refl _, fit.2.2⟩

/-- Within its ratings with another committed value. -/
theorem PortRecord.WithinRatings.commit {c : PortConfig} {r r' : PortRecord} (h : r.WithinRatings c) (committed : c.Holds r'.committed)
    (outstanding : r'.outstanding = r.outstanding ∨ r'.outstanding = none) (staged : r'.staged = r.staged ∨ r'.staged = none)
    (desired : r'.desired = r.desired) (cluster : r'.cluster = r.cluster) (storage : r'.storage = r.storage) : r'.WithinRatings c where
  committed := committed
  outstanding u recalled := by
    rcases outstanding with same | none
    exacts [h.outstanding u (same ▸ recalled), by rw [none] at recalled; cases recalled]
  staged v some := by
    rcases staged with same | none
    exacts [h.staged v (same ▸ some), by rw [none] at some; cases some]
  desired v some := h.desired v (desired ▸ some)
  available := by rw [cluster]; exact h.available
  discharge := by rw [storage]; exact h.discharge
  charge := by rw [storage]; exact h.charge

/-- Every step of a record that takes part keeps it within its ratings, where a value that becomes desired is within them. -/
theorem PortRecord.Step.withinRatings {c : PortConfig} {r r' : PortRecord} (fit : c.FiguresFit) (proper : c.Proper) (sound : r.Sound)
    (h : r.participation ≠ .absent → r.WithinRatings c) (step : PortRecord.Step c c.Holds r r') (present : r'.participation ≠ .absent) :
    r'.WithinRatings c := by
  cases step with
  | joined => exact .joined fit proper r
  | left => exact absurd rfl present
  | opened d n active _ desired =>
    have := h active.not_absent
    refine ⟨this.committed, ?_, this.staged, this.desired, this.available, this.discharge, this.charge⟩
    rintro u ⟨⟩
    exact this.desired d desired
  | deepened d u active _ desired =>
    have := h present
    refine ⟨this.committed, ?_, this.staged, this.desired, this.available, this.discharge, this.charge⟩
    rintro u ⟨⟩
    exact this.desired d desired
  | unstaged => exact (h present).commit (h present).committed (.inl rfl) (.inr rfl) rfl rfl rfl
  | staged d active desired =>
    have := h present
    refine ⟨this.committed, this.outstanding, ?_, this.desired, this.available, this.discharge, this.charge⟩
    rintro v ⟨⟩
    exact this.desired d desired
  | wanted d ok =>
    have := h present
    exact ⟨this.committed, this.outstanding, this.staged, fun v some => (ok v some).2, this.available, this.discharge, this.charge⟩
  | formed =>
    have := h present
    exact ⟨this.committed, this.outstanding, this.staged, this.desired, this.available, this.discharge, this.charge⟩
  | timedOut recalling =>
    have := h (by rw [recalling]; simp)
    refine this.commit ?_ (.inl rfl) (.inl rfl) rfl rfl rfl
    obtain ⟨low, high⟩ := this.committed
    have := fit.1
    simp only [PortRecord.timedOut, PortConfig.Holds]
    split <;> omega
  | silenced can =>
    have := h ((PortRecord.canFallSilent_iff r).1 can).1
    refine this.commit ?_ (.inl rfl) (.inr rfl) rfl rfl rfl
    exact ⟨this.committed.1.trans (le_max_left _ _), max_le this.committed.2 (PortConfig.rest_le fit proper)⟩
  | fullyYielded u v recalled =>
    have := h fun absent => by rw [(sound.absent absent).1] at recalled; cases recalled
    exact this.commit (PortConfig.holds_clampValue fit v) (.inr rfl) (.inl rfl) rfl rfl rfl
  | partlyYielded u v recalled =>
    have := h present
    refine this.commit ?_ (.inl rfl) (.inl rfl) rfl rfl rfl
    obtain ⟨low, high⟩ := PortConfig.holds_clampValue fit v
    have := fit.1
    simp only [PortRecord.partlyYielded, PortConfig.Holds]
    split <;> omega
  | clusterStored o a d =>
    have := h present
    exact ⟨this.committed, this.outstanding, this.staged, this.desired, fun _ => clamp_zero_mem fit.1 a, this.discharge, this.charge⟩
  | storageStored a d e k m =>
    have := h present
    exact ⟨this.committed, this.outstanding, this.staged, this.desired, this.available, fun _ => clamp_zero_mem fit.1 d,
      fun _ => clamp_zero_mem fit.2.2 e⟩
  | returned v silent value =>
    have := h (by rw [((PortRecord.silent_iff r).1 silent).1]; simp)
    have committed : c.Holds v := by
      rcases value with rfl | rfl
      exacts [this.committed, PortConfig.holds_clampValue fit _]
    rcases r.returned_cases v with ⟨u, recalled, _, eq⟩ | eq
    all_goals rw [PortRecord.returnedSent, eq]
    · exact this.commit committed (.inl recalled.symm) (.inl rfl) rfl rfl rfl
    · exact this.commit committed (.inr rfl) (.inl rfl) rfl rfl rfl
  | _ => exact (h present).commit (h present).committed (.inl rfl) (.inl rfl) rfl rfl rfl

theorem PortRecord.Grant.withinRatings {c : PortConfig} {r r' : PortRecord} (h : r.participation ≠ .absent → r.WithinRatings c)
    (grant : PortRecord.Grant r r') : r'.WithinRatings c := by
  obtain ⟨g, d, active, alone, above, upTo, source⟩ := grant
  have := h active.not_absent
  refine this.commit ⟨this.committed.1.trans above.le, upTo.trans ?_⟩ (.inl rfl) (.inl rfl) rfl rfl rfl
  exact source.elim (fun desired => (this.desired d desired).2) fun staged => (this.staged d staged).2

/-- A sound record at rest while it is ABSENT, and within its ratings where it takes part. -/
structure PortRecord.Rated (c : PortConfig) (r : PortRecord) : Prop where
  rests : r.Rests c
  within : c.Proper → c.role.steerable = true → r.participation ≠ .absent → r.WithinRatings c

theorem PortRecord.Leads.rated {c : PortConfig} {r r' : PortRecord} (fit : c.FiguresFit) (h : r.Rated c) (leads : PortRecord.Leads c c.Holds r r') :
    r'.Rated c := by
  induction leads with
  | refl => exact h
  | tail leads step ih =>
    refine ⟨PortRecord.Leads.rests h.rests (Relation.ReflTransGen.tail leads step), fun proper steers => ?_⟩
    rcases step with step | grant
    exacts [step.withinRatings fit proper ih.rests.sound (ih.within proper steers), fun _ => grant.withinRatings (ih.within proper steers)]

theorem PortRecord.rated_kept : PortRecord.Kept PortConfig.Holds (fun r => r.participation = .absent) fun c r => r.Rated c where
  steps fit h leads := leads.rated fit h
  undesired h := ⟨⟨h.rests.sound.undesired, h.rests.rest⟩, fun proper steers present => by
    have := h.within proper steers present
    exact ⟨this.committed, this.outstanding, this.staged, nofun, this.available, this.discharge, this.charge⟩⟩
  rested _ _ _ absent h := ⟨⟨h.rests.sound.rested absent _ _, fun _ => rfl⟩, fun _ _ present => absurd absent present⟩

/-! ### Divisions stay within the ratings -/

theorem exists_of_forall₂ {α β : Type} {R : α → β → Prop} {as : List α} {bs : List β} (h : List.Forall₂ R as bs) {b : β} (mem : b ∈ bs) :
    ∃ a ∈ as, R a b := by
  induction h with
  | nil => cases mem
  | cons head _ ih =>
    rcases List.mem_cons.1 mem with rfl | mem
    · exact ⟨_, List.mem_cons_self, head⟩
    · obtain ⟨a, held, related⟩ := ih mem
      exact ⟨a, List.mem_cons_of_mem _ held, related⟩

/-- Every ceiling of a division lies in its cluster's range (R100 to R104). -/
theorem divideBudget_range {budget : Int} {cs : List ActiveCluster} (pos : 0 ≤ budget) (ranges : ∀ c ∈ cs, 0 ≤ c.forecast ∧ c.forecast ≤ c.rated)
    {x : Port × Int} (mem : x ∈ divideBudget budget cs) : ∃ c ∈ cs, x.1 = c.port ∧ 0 ≤ x.2 ∧ x.2 ≤ c.rated := by
  obtain ⟨proportional, full, spare, rated, empty⟩ := budgetDivisionIsExact budget cs pos ranges
  have forecasts : 0 ≤ (cs.map ActiveCluster.forecast).sum := List.sum_nonneg fun v held => by
    obtain ⟨c, inside, rfl⟩ := List.mem_map.1 held
    exact (ranges c inside).1
  have unused : 0 ≤ (cs.map fun c => c.rated - c.forecast).sum := List.sum_nonneg fun v held => by
    obtain ⟨c, inside, rfl⟩ := List.mem_map.1 held
    have := ranges c inside
    omega
  have each (value : ActiveCluster → Int) (fits : ∀ c ∈ cs, 0 ≤ value c ∧ value c ≤ c.rated)
      (eq : divideBudget budget cs = cs.map fun c => (c.port, value c)) : ∃ c ∈ cs, x.1 = c.port ∧ 0 ≤ x.2 ∧ x.2 ≤ c.rated := by
    rw [eq] at mem
    obtain ⟨c, held, rfl⟩ := List.mem_map.1 mem
    exact ⟨c, held, rfl, fits c held⟩
  rcases Int.lt_or_le (cs.map ActiveCluster.forecast).sum budget with above | below
  · rcases unused.eq_or_lt with zero | some
    · exact each _ ranges (full above zero.symm)
    · rcases Int.lt_or_le (budget - (cs.map ActiveCluster.forecast).sum) (cs.map fun c => c.rated - c.forecast).sum with part | all
      · obtain ⟨c, held, port, given, most⟩ := exists_of_forall₂ (spare above some part).2.1 mem
        have range := ranges c held
        have floor := Int.ediv_nonneg (mul_nonneg (sub_nonneg.2 above.le) (sub_nonneg.2 range.2)) some.le
        simp only at given
        exact ⟨c, held, port, by omega, most⟩
      · exact each _ (fun c held => ⟨(ranges c held).1.trans (ranges c held).2, le_refl _⟩) (rated above some all)
  · rcases forecasts.eq_or_lt with zero | some
    · exact each _ (fun c held => ⟨le_refl _, (ranges c held).1.trans (ranges c held).2⟩) (empty zero.symm (by omega))
    · obtain ⟨c, held, port, given, most⟩ := exists_of_forall₂ (proportional some below).2.1 mem
      have range := ranges c held
      have floor := Int.ediv_nonneg (mul_nonneg pos range.1) some.le
      simp only at given
      exact ⟨c, held, port, by omega, most.trans range.2⟩

/-- A storage target's magnitude within the sum of the availabilities gives no port more than its own (R85, R86). -/
theorem divideAmong_range {amount : Int} {members : List (Port × Int)} (pos : 0 < amount) (weights : ∀ m ∈ members, 0 ≤ m.2)
    (fits : amount ≤ (members.map Prod.snd).sum) {x : Share} (mem : x ∈ divideAmong amount members) :
    ∃ m ∈ members, x.port = m.1 ∧ 0 ≤ x.given ∧ x.given ≤ m.2 := by
  obtain ⟨m, held, port, low, high, _⟩ := exists_of_forall₂ (storageDivisionIsExact amount members pos weights fits).2.1 mem
  exact ⟨m, held, port, low, high⟩

theorem sum_filter_map (ps : List Port) (test : Port → Bool) (f : Port → Int) :
    ((ps.filter test).map f).sum = (ps.map fun p => if test p then f p else 0).sum := by
  induction ps with
  | nil => rfl
  | cons p ps ih =>
    rw [List.filter_cons]
    split
    case isTrue in_ => simp [in_, ih]
    case isFalse out => simp [out, ih]

/-- The availabilities of a sweep order's members sum to those of the ports (R80). -/
theorem State.sum_storageMembers {s : State} (sweep : s.sweepOrder.Perm (List.finRange 12)) (f : StorageReport → Int) :
    ((s.storageMembers f).map Prod.snd).sum = s.storageSum f := by
  rw [State.storageMembers, List.map_map, State.storageSum, portSum, ← (sweep.map _).sum_eq]
  exact sum_filter_map _ _ _

/-- The engaged target lies within the engaged availabilities (R84). -/
theorem State.engagedTarget_mem {s : State} (charge : 0 ≤ s.engagedCharge) (discharge : 0 ≤ s.engagedDischarge) (net : Int) :
    -s.engagedCharge ≤ s.engagedTarget net ∧ s.engagedTarget net ≤ s.engagedDischarge :=
  clamp_mem (by omega) _

/-- Every setpoint lies within its port's availabilities (R84 to R86). -/
theorem State.setpoints_range {s : State} (sweep : s.sweepOrder.Perm (List.finRange 12))
    (formed : ∀ p, s.activeStorage p = true →
      0 ≤ (s.record p).storage.dischargeAvailability ∧ 0 ≤ (s.record p).storage.chargeAvailability) {net : Int} {p : Port} {v : Int}
    (mem : (p, v) ∈ s.setpoints (s.engagedTarget net)) :
    -(s.record p).storage.chargeAvailability ≤ v ∧ v ≤ (s.record p).storage.dischargeAvailability := by
  have active := State.activeStorage_of_mem_setpoints mem
  obtain ⟨discharge, charge⟩ := formed p active
  have sums (f : StorageReport → Int) (each : ∀ p, s.activeStorage p = true → 0 ≤ f (s.record p).storage) : 0 ≤ s.storageSum f :=
    portSum_nonneg fun q => by
      split
      exacts [each q ‹_›, le_refl _]
  obtain ⟨low, high⟩ := State.engagedTarget_mem (sums _ fun q h => (formed q h).2) (sums _ fun q h => (formed q h).1) net
  have weights (f : StorageReport → Int) (each : ∀ p, s.activeStorage p = true → 0 ≤ f (s.record p).storage) (m : Port × Int)
      (held : m ∈ s.storageMembers f) : 0 ≤ m.2 := by
    obtain ⟨q, inside, rfl⟩ := List.mem_map.1 held
    exact each q (List.mem_filter.1 inside).2
  have own {f : StorageReport → Int} {m : Port × Int} (held : m ∈ s.storageMembers f) : m.2 = f (s.record m.1).storage := by
    obtain ⟨q, _, rfl⟩ := List.mem_map.1 held
    rfl
  unfold State.setpoints at mem
  split at mem
  case isTrue pos =>
    obtain ⟨x, held, same⟩ := List.mem_map.1 mem
    cases same
    obtain ⟨m, member, port, given, most⟩ := divideAmong_range pos (weights _ fun q h => (formed q h).1)
      (by rw [State.sum_storageMembers sweep]; exact high) held
    rw [own member, ← port] at most
    omega
  case isFalse =>
    split at mem
    case isTrue neg =>
      obtain ⟨x, held, same⟩ := List.mem_map.1 mem
      cases same
      obtain ⟨m, member, port, given, most⟩ := divideAmong_range (by omega) (weights _ fun q h => (formed q h).2)
        (by rw [State.sum_storageMembers sweep]; exact Int.neg_le_of_neg_le low) held
      rw [own member, ← port] at most
      omega
    case isFalse =>
      obtain ⟨q, _, same⟩ := List.mem_map.1 mem
      cases same
      omega

/-! ### What a governing frame makes desired -/

theorem State.record_readied (s : State) (p : Port) : s.readied.record p =
    if s.activeStorage p then
      { s.record p with
        storage :=
          { (s.record p).storage with
            dischargeAvailability := dischargeAvailability (s.config p) (s.record p).storage
            chargeAvailability := chargeAvailability (s.config p) (s.record p).storage } }
    else s.record p :=
  State.record_mapRecords s.advanceSweep _ p

theorem State.activeStorage_readied (s : State) (p : Port) : s.readied.activeStorage p = s.activeStorage p := by
  have part : (s.readied.record p).active = (s.record p).active := by
    rw [s.record_readied]
    split <;> rfl
  unfold State.activeStorage
  rw [part]
  rfl

theorem dischargeAvailability_mem {c : PortConfig} {r : StorageReport} (rated : 0 ≤ c.rated) (discharge : 0 ≤ r.discharge) :
    0 ≤ Machine.dischargeAvailability c r ∧ Machine.dischargeAvailability c r ≤ c.rated := by
  unfold Machine.dischargeAvailability
  split <;> omega

theorem chargeAvailability_mem {c : PortConfig} {r : StorageReport} (rated : 0 ≤ c.ratedCharge) (charge : 0 ≤ r.charge) :
    0 ≤ Machine.chargeAvailability c r ∧ Machine.chargeAvailability c r ≤ c.ratedCharge := by
  unfold Machine.chargeAvailability
  split <;> omega

theorem State.activeStorage_iff (s : State) (p : Port) : s.activeStorage p = true ↔ (s.config p).role = .storage ∧ (s.record p).Active := by
  rw [State.activeStorage, Bool.and_eq_true, PortRecord.active_iff, beq_iff_eq]

/-- Figures in their ranges, as a governing frame reads them. -/
structure State.Computable (s : State) : Prop where
  table : s.TableInRange
  rated : ∀ p, (s.record p).Rated (s.config p)
  proper : ∀ p, (s.config p).Proper
  ratios : ∀ c, 0 ≤ (s.channel c).ratio ∧ (s.channel c).ratio ≤ 256

theorem State.Computable.within {s : State} (h : s.Computable) {p : Port} (steers : (s.config p).role.steerable = true) (active : (s.record p).Active) :
    (s.record p).WithinRatings (s.config p) := (h.rated p).within (h.proper p) steers active.not_absent

theorem State.Computable.frameSetpoints {s : State} (h : s.Computable) {p : Port} {v : Int} (mem : (p, v) ∈ s.frameSetpoints) :
    (s.config p).Holds v := by
  have record (q : Port) : (s.readied.reportStages s.frameStages).record q = s.readied.record q := s.readied.record_reportStages _ q
  have same : (s.readied.reportStages s.frameStages).portTable = s.portTable ∧ (s.readied.reportStages s.frameStages).sweepOrder = s.readied.sweepOrder := by
    obtain ⟨c, e, l, eq⟩ := s.readied.reportStages_eq s.frameStages
    rw [eq]
    exact ⟨rfl, rfl⟩
  obtain ⟨table, order⟩ := same
  have sweep : s.readied.sweepOrder.Perm (List.finRange 12) := sweepOrderOf_perm _ _
  unfold State.frameSetpoints at mem
  generalize s.readied.reportStages s.frameStages = u at *
  have config (q : Port) : u.config q = s.config q := by rw [State.config, table]; rfl
  have formed (q : Port) (takes : u.activeStorage q = true) :
      (0 ≤ (u.record q).storage.dischargeAvailability ∧ (u.record q).storage.dischargeAvailability ≤ (s.config q).rated) ∧
      0 ≤ (u.record q).storage.chargeAvailability ∧ (u.record q).storage.chargeAvailability ≤ (s.config q).ratedCharge := by
    have active : s.activeStorage q = true := by
      rw [← s.activeStorage_readied, State.activeStorage, ← record]
      rwa [State.activeStorage, config] at takes
    obtain ⟨storage, steered⟩ := (s.activeStorage_iff q).1 active
    have within := h.within (by rw [storage]; rfl) steered
    rw [record, s.record_readied, if_pos active]
    exact ⟨dischargeAvailability_mem (h.table q).1 (within.discharge storage).1, chargeAvailability_mem (h.table q).2.2 (within.charge storage).1⟩
  have takes := State.activeStorage_of_mem_setpoints mem
  obtain ⟨low, high⟩ := State.setpoints_range (order ▸ sweep) (fun q takes => ⟨(formed q takes).1.1, (formed q takes).2.1⟩) mem
  obtain ⟨⟨_, discharge⟩, _, charge⟩ := formed p takes
  have storage := ((u.activeStorage_iff p).1 takes).1
  rw [config] at storage
  simp only [PortConfig.Holds, PortConfig.least, storage]
  omega

theorem State.channel_recorded (s : State) (c : ChannelIndex) : s.recorded.channel c = s.channel c := by
  obtain ⟨_, _, _, _, figured⟩ := s.figured_eq
  obtain ⟨_, _, _, _, _, recorded⟩ := s.figured.appendRecord_eq s.activeProfile (s.figured.frameRecord s.frameMarks)
  rw [State.recorded, recorded, figured]
  rfl

theorem State.leadRatio_mem {s : State} (ratios : ∀ c, 0 ≤ (s.channel c).ratio ∧ (s.channel c).ratio ≤ 256) (profile : Profile) (p : Port) :
    0 ≤ s.leadRatio profile p ∧ s.leadRatio profile p ≤ 256 := by
  unfold State.leadRatio
  split
  · split
    · decide
    · split
      exacts [ratios _, by decide]
  · decide

/-- A forecast lies in its cluster's range (R9). -/
theorem State.Computable.forecast {s : State} (h : s.Computable) (profile : Profile) {p : Port} (cluster : (s.config p).role = .cluster)
    (active : (s.record p).Active) : 0 ≤ s.forecast profile p ∧ s.forecast profile p ≤ (s.config p).rated := by
  obtain ⟨low, high⟩ := State.leadRatio_mem h.ratios profile p
  obtain ⟨nonneg, le⟩ := (h.within (by rw [cluster]; rfl) active).available cluster
  refine ⟨Int.ediv_nonneg (mul_nonneg nonneg low) (by decide), Int.ediv_le_of_le_mul (by decide) ?_⟩
  exact mul_le_mul le high low (h.table p).1

theorem State.Computable.ceilings {s : State} (h : s.Computable) {profile : Profile} {budget : Int} {p : Port} {v : Int}
    (mem : (p, v) ∈ divideBudget (s.activeBudget profile budget) (s.activeSet profile)) : (s.config p).Holds v := by
  have members (c : ActiveCluster) (held : c ∈ s.activeSet profile) :
      (s.config c.port).role = .cluster ∧ c.rated = (s.config c.port).rated ∧ 0 ≤ c.forecast ∧ c.forecast ≤ c.rated := by
    obtain ⟨q, inside, rfl⟩ := List.mem_map.1 held
    have takes := (List.mem_filter.1 inside).2
    rw [Bool.and_eq_true, PortRecord.active_iff, State.isCluster, beq_iff_eq] at takes
    exact ⟨takes.1, rfl, h.forecast profile takes.1 takes.2⟩
  obtain ⟨c, held, port, low, high⟩ := divideBudget_range (le_max_left _ _) (fun c held => (members c held).2.2) mem
  obtain ⟨cluster, rated, _⟩ := members c held
  simp only at port
  rw [← port] at cluster rated
  simp only [PortConfig.Holds, PortConfig.least, cluster]
  omega

theorem State.Computable.desires {s : State} (h : s.Computable) : s.Desires fun p => (s.config p).Holds := by
  have setpoints : ∀ p v, (p, v) ∈ s.frameSetpoints → (s.config p).Holds v := fun p v => h.frameSetpoints
  refine ⟨setpoints, fun p v mem => ?_⟩
  have moved : s.Moves (fun p => (s.config p).Holds) s.recorded := by
    have records := s.figured.record_appendRecord s.activeProfile (s.figured.frameRecord s.frameMarks)
    obtain ⟨ring, n, c, e, l, eq⟩ := s.figured.appendRecord_eq s.activeProfile (s.figured.frameRecord s.frameMarks)
    exact (State.Moves.figured setpoints).trans (.of_records (by rw [State.recorded, eq]) (by rw [State.recorded, eq]) records)
  have computable : s.recorded.Computable :=
    ⟨moved.tableInRange h.table, fun q => by rw [moved.config]; exact (moved.records q).rated (h.table q) (h.rated q),
      fun q => by rw [moved.config]; exact h.proper q, fun c => by rw [s.channel_recorded]; exact h.ratios c⟩
  have inside := computable.ceilings mem
  rwa [moved.config] at inside

/-! ### The law of the part -/

theorem State.RatingsKept.rated {s : State} (h : s.RatingsKept) (commitments : s.CommitmentsKept) (p : Port) : (s.record p).Rated (s.config p) := by
  cases runs : s.mode.running with
  | true => exact ⟨⟨commitments.sound p, h.absent runs p⟩, fun _ => h.steered runs p⟩
  | false =>
    obtain ⟨absent, rest, _⟩ := commitments.resting ((Mode.idle_iff _).2 runs) p
    exact ⟨⟨commitments.sound p, fun _ => rest⟩, fun _ _ present => absurd absent present⟩

/-- No fallback lies above its cluster's rating while the part runs (R141). -/
theorem State.Effect.proper {s w : State} (e : s.Effect w) (h : s.RatingsKept) (runs : w.mode.running = true) (p : Port) : (w.config p).Proper := by
  have passes {c : Configuration} (passed : c.crossCheck = .passed) (p : Port) : (c.ports[p]).Proper := by
    obtain ⟨_, _, _, _, fallback, _, _⟩ := (crossChecksPassExactlyWhenAllHold c).1.1 passed
    exact fallback p
  cases e.course with
  | moves m running => rw [(m fun _ _ => True).config]; exact h.fallbacks (running ▸ runs) p
  | loaded memory =>
    rcases s.endLoading_cases memory with ⟨c, ok, eq⟩ | ⟨e, _, eq⟩
    · rw [eq, State.config_enterPriming, State.config_loadedWith]
      exact passes (judgeImage_induction (P := fun _ => True) trivial (fun _ _ _ _ _ => trivial) ok).2 p
    · rw [eq, State.mode_enterStandby] at runs
      cases runs
  | frame due =>
    rw [(State.Moves.frame (D := fun _ _ => True) s fun _ => ⟨fun _ _ _ => trivial, fun _ _ _ => trivial⟩).config]
    exact h.fallbacks (State.frameDue_running due) p
  | stopped t => rw [State.mode_enterStandby] at runs; cases runs
  | site t f site l _ standby same =>
    rw [same, standby] at runs
    cases runs
  | port t f p c l _ standby same =>
    rw [same, standby] at runs
    cases runs
  | started t m _ _ passed => rw [State.config_enterPriming, (m fun _ _ => True).config]; exact passes passed p

theorem State.Effect.ratingsKept {s w : State} (e : s.Effect w) (follows : s.FollowsMode) (commitments : s.CommitmentsKept) (h : s.RatingsKept) :
    w.RatingsKept := by
  have moved : s.Moves (fun p => (s.config p).Holds) s.prepareFrame := .prepareFrame s
  have desires : s.mode = .governing → s.prepareFrame.Desires fun p => (s.config p).Holds := fun governing => by
    have computable : s.prepareFrame.Computable :=
      ⟨moved.tableInRange h.table, fun q => by rw [moved.config]; exact (moved.records q).rated (h.table q) (h.rated commitments q),
        fun q => by rw [moved.config]; exact h.fallbacks (by rw [governing]; rfl) q, fun c => by rw [s.channel_prepareFrame]; exact h.ratios c⟩
    have := computable.desires
    simpa only [moved.config] using this
  obtain ⟨table, rated⟩ := e.course.keeps PortRecord.rated_kept h.table (h.rated commitments) follows.absent_of_idle desires
  exact {
    table := table
    ratios := e.channels (P := fun c => 0 ≤ c.ratio ∧ c.ratio ≤ 256) (Channel.ratio_kept fun _ fits => fits) (fun _ _ => trivial) h.ratios
    fallbacks := fun runs p => e.proper h runs p
    steered := fun runs p => (rated p).within (e.proper h runs p)
    absent := fun _ p => (rated p).rests.rest }

/-- Settles O60: each step of a record keeps it within its ratings, and what a division makes desired lies in its port's range. -/
theorem stepsKeepCommitmentsInTheirRatings : Obligations.StepsKeepCommitmentsInTheirRatings := by
  intro s t follows sweep commitments ratings stepped
  have resting {s t : State} (c : s.CommitmentsKept) (table : t.portTable = s.portTable) (site : t.site = s.site) (mode : t.mode = s.mode)
      (records : t.records = s.records) : t.CommitmentsKept := by
    cases s; cases t
    simp only at table site mode records
    subst table site mode records
    exact .of_parts c.table c.sound (fun i p => ⟨(c.resting i p).1, (c.resting i p).2.1⟩) c.withinLimit
  refine (step_keeps (P := fun s => s.FollowsMode ∧ s.CommitmentsKept ∧ s.RatingsKept) (Q := fun s => s.FollowsMode ∧ s.CommitmentsKept ∧ s.RatingsKept)
    ?_ ?_ ?_ ?_ ?_ ⟨follows, commitments, ratings⟩ stepped).2.2
  · exact fun s rest ⟨f, c, r⟩ => ⟨f.congr rfl rfl rfl rfl rfl id fun _ _ a => a, resting c rfl rfl rfl rfl, ⟨r.table, r.ratios, r.fallbacks, r.steered, r.absent⟩⟩
  · exact fun s cause => ⟨(State.atStart_restarted s cause).followsMode, (State.atStart_restarted s cause).commitmentsKept,
      (State.atStart_restarted s cause).ratingsKept⟩
  · exact fun s p q ⟨f, c, r⟩ => ⟨f.of_links rfl, resting c rfl rfl rfl rfl, ⟨r.table, r.ratios, r.fallbacks, r.steered, r.absent⟩⟩
  · exact fun s w ⟨f, c, r⟩ e => ⟨e.followsMode f, e.commitmentsKept f c, e.ratingsKept f c r⟩
  · exact fun w ⟨f, c, r⟩ => ⟨f.of_links rfl, resting c rfl rfl rfl rfl, ⟨r.table, r.ratios, r.fallbacks, r.steered, r.absent⟩⟩

end Sys2Proof.Machine
end

section
/-! The channels and the meter over every event (O57). -/

namespace Sys2Proof.Machine

/-! ### One channel -/

theorem Channel.config_gather (c : Channel) (v : Int) : (c.gather v).config = c.config := by
  unfold Channel.gather
  simp only
  split <;> rfl

theorem Channel.value_gather (c : Channel) (v : Int) : (c.gather v).value = c.value := by
  unfold Channel.gather
  simp only
  split <;> rfl

theorem Channel.lossMark_gather (c : Channel) (v : Int) : (c.gather v).lossMark = c.lossMark := by
  unfold Channel.gather
  simp only
  split <;> rfl

theorem Channel.state_gather (c : Channel) (v : Int) : (c.gather v).state = if c.state = .lost then .filling else c.state := by
  unfold Channel.gather
  simp only
  split <;> rfl

theorem Channel.config_takeSample (c : Channel) (v : Int) : (c.takeSample v).config = c.config := by
  unfold Channel.takeSample
  split
  exacts [c.config_gather v, c.config_gather v]

theorem Channel.config_takeMissing (c : Channel) : c.takeMissing.config = c.config := by
  unfold Channel.takeMissing
  simp only
  split <;> rfl

theorem Channel.state_takeSample_of_some {c : Channel} {v value : Int} (h : c.newValue v = some value) : (c.takeSample v).state = .valid := by
  unfold Channel.takeSample
  rw [h]
  rfl

theorem Channel.takeSample_of_none {c : Channel} {v : Int} (h : c.newValue v = none) : c.takeSample v = c.gather v := by
  unfold Channel.takeSample
  rw [h]

/-- A missing sample that does not lose the channel leaves its state and its loss mark (R65). -/
theorem Channel.takeMissing_cases (c : Channel) :
    (c.takeMissing.state = .lost ∧ c.takeMissing.lossMark = true ∧ (c.state = .filling ∨ c.state = .valid)) ∨
    c.takeMissing.state = c.state ∧ c.takeMissing.lossMark = c.lossMark := by
  unfold Channel.takeMissing
  simp only
  split
  case isTrue lost => exact .inl ⟨rfl, rfl, lost.2⟩
  case isFalse => exact .inr ⟨rfl, rfl⟩

/-- Replacing the oldest of a full buffer keeps it within M values (R64). -/
theorem ChannelConfig.length_pushBuffer_le (c : ChannelConfig) (buffer : List Int) (v : Int) (h : buffer.length ≤ c.averaging) (one : 1 ≤ c.averaging) :
    (c.pushBuffer buffer v).length ≤ c.averaging := by
  unfold ChannelConfig.pushBuffer
  split <;> simp <;> omega

theorem Channel.InOrder.gather {c : Channel} (h : c.InOrder) (v : Int) : (c.gather v).InOrder := by
  have lengths : (c.gather v).group.length < c.config.groupSize ∧ (c.gather v).buffer.length ≤ c.config.averaging := by
    have room := h.group
    unfold Channel.gather
    simp only
    split
    case isTrue => exact ⟨by simp only [List.length_nil]; omega, c.config.length_pushBuffer_le _ _ h.buffer h.positive⟩
    case isFalse free => exact ⟨by simpa using free, h.buffer⟩
  have run : (c.gather v).missingRun = 0 := by
    unfold Channel.gather
    simp only
    split <;> rfl
  refine ⟨?_, ?_, ?_, ?_, ?_, ?_, ?_⟩
  all_goals simp only [Channel.config_gather, Channel.value_gather, Channel.state_gather, Channel.lossMark_gather]
  · rw [h.value]
    split <;> simp_all
  · exact lengths.1
  · exact lengths.2
  · exact h.positive
  · rw [← h.off]
    split <;> simp_all
  · rw [run]; omega
  · split
    · exact nofun
    · exact h.mark

/-- A channel in order that is not OFF takes a sample in order (R63, R64). -/
theorem Channel.InOrder.takeSample {c : Channel} (h : c.InOrder) (on : c.state ≠ .off) (v : Int) : (c.takeSample v).InOrder := by
  have gathered := h.gather v
  unfold Channel.takeSample
  split
  · refine ⟨by simp [Channel.takeValue], gathered.group, gathered.buffer, gathered.positive, ?_, gathered.run, fun _ => rfl⟩
    have kind : c.config.kind ≠ .off := mt h.off.2 on
    simpa [Channel.takeValue, Channel.config_gather] using kind
  · exact gathered

theorem Channel.InOrder.takeMissing {c : Channel} (h : c.InOrder) : c.takeMissing.InOrder := by
  have run : countUp c.config.missLimit c.missingRun ≤ c.config.missLimit := by
    have := h.run
    unfold countUp
    split <;> omega
  have room := h.group
  unfold Channel.takeMissing
  simp only
  split
  case isTrue lost =>
    have on : c.state ≠ .off := by rcases lost.2 with s | s <;> simp [s]
    exact ⟨by simp, by simp only [List.length_nil]; omega, by simp, h.positive, by simpa using mt h.off.2 on, run, nofun⟩
  case isFalse => exact ⟨h.value, h.group, h.buffer, h.positive, h.off, run, h.mark⟩

theorem Channel.InOrder.restarted {c : Channel} (h : c.InOrder) : c.restarted.InOrder := by
  have room := h.group
  unfold Channel.restarted
  split
  · exact h
  case isFalse on =>
    exact ⟨by simp, by simp only [List.length_nil]; omega, by simp, h.positive, by simpa using mt h.off.2 on, Nat.zero_le _, nofun⟩

theorem ChannelConfig.Fits.inOrder {c : ChannelConfig} (fits : c.Fits) : (configuredChannel c).InOrder where
  value := by unfold configuredChannel Channel.start; simp only; split <;> simp
  group := fits.groupSize
  buffer := Nat.zero_le _
  positive := fits.averaging
  off := by unfold configuredChannel; simp only; split <;> simp_all
  run := Nat.zero_le _
  mark := by unfold configuredChannel; simp only; split <;> exact nofun

/-- Every event keeps a channel in order, as long as no read is awaited of an OFF one. -/
theorem Channel.inOrder_kept : Channel.Kept Channel.InOrder fun c => c.state ≠ .off where
  skip _ _ h := ⟨h.value, h.group, h.buffer, h.positive, h.off, h.run, h.mark⟩
  sample _ v on h := h.takeSample on v
  missing _ h := h.takeMissing
  restarted _ h := h.restarted
  configured _ fits := fits.inOrder
  counted _ h := ⟨h.value, h.group, h.buffer, h.positive, h.off, h.run, h.mark⟩
  cleared _ h := ⟨h.value, h.group, h.buffer, h.positive, h.off, h.run, h.mark⟩

/-! ### What a law of the meter reads of a channel -/

/-- The kind, the state and the loss mark of a channel stand. -/
structure Channel.Alike (c d : Channel) : Prop where
  kind : d.config.kind = c.config.kind
  state : d.state = c.state
  lossMark : d.lossMark = c.lossMark

theorem Channel.Alike.refl (c : Channel) : c.Alike c := ⟨rfl, rfl, rfl⟩

theorem Channel.Alike.trans {a b c : Channel} (h : a.Alike b) (h' : b.Alike c) : a.Alike c :=
  ⟨h'.kind.trans h.kind, h'.state.trans h.state, h'.lossMark.trans h.lossMark⟩

theorem State.alike_setSkip (s : State) (i : ChannelIndex) (n : Nat) (j : ChannelIndex) :
    (s.channel j).Alike ((s.setChannel i { s.channel i with skipCounter := n }).channel j) := by
  rw [State.channel_setChannel]
  split
  case isTrue same => rw [same]; exact ⟨rfl, rfl, rfl⟩
  case isFalse => exact .refl _

/-- Visiting channels changes skip counters only. -/
theorem State.alike_visit (is : List ChannelIndex) (s : State) (j : ChannelIndex) : (s.channel j).Alike ((s.visit is).channel j) := by
  induction is generalizing s with
  | nil => exact .refl _
  | cons i is ih =>
    unfold State.visit
    simp only
    split
    · exact ih s
    · split
      · exact s.alike_setSkip i _ j
      · exact (s.alike_setSkip i _ j).trans (ih _)

/-- The channel a scan stops at is not OFF (R58). -/
theorem State.reading_visit (is : List ChannelIndex) (s : State) {scan : Scan} (awaited : (s.visit is).scan = some scan) :
    ((s.visit is).channel scan.channel).state ≠ .off := by
  induction is generalizing s with
  | nil => exact absurd awaited nofun
  | cons i is ih =>
    unfold State.visit at awaited ⊢
    simp only at awaited ⊢
    split at awaited
    case isTrue off => rw [if_pos off]; exact ih s awaited
    case isFalse on =>
      rw [if_neg on]
      split at awaited
      case isTrue due =>
        rw [if_pos due]
        cases awaited
        have same := (s.alike_setSkip i (s.channel i).config.skip i).state
        exact fun off => on (same.symm.trans off)
      case isFalse due => rw [if_neg due]; exact ih _ awaited

theorem State.mode_visit (is : List ChannelIndex) (s : State) : (s.visit is).mode = s.mode := by
  obtain ⟨_, _, eq⟩ := s.visit_eq is
  rw [eq]

theorem State.alike_counted {s w : State} {a b d e : Nat}
    (frame : w.frame = { s with
      excursions := a, windowConflicts := b, complianceEpisodes := d, holdingEntries := e
      channels := (s.mapChannels fun _ c => { c with missing := 0 }).channels }.frame) (c : ChannelIndex) : (s.channel c).Alike (w.channel c) := by
  rw [State.channel_of_frame frame]
  have counted := State.channel_mapChannels s (fun _ c => { c with missing := 0 }) c
  exact Eq.mpr (congrArg (s.channel c).Alike counted) ⟨rfl, rfl, rfl⟩

theorem State.alike_cleared {s w : State} {ch : Vector Channel 16} (each : ∀ c : ChannelIndex, ch[c] = s.channel c ∨ ch[c] = (s.channel c).alarmsCleared)
    (frame : w.frame = { s with channels := ch }.frame) (c : ChannelIndex) : (s.channel c).Alike (w.channel c) := by
  rw [State.channel_of_frame frame]
  rcases each c with same | cleared
  · exact Eq.mpr (congrArg (s.channel c).Alike same) (.refl _)
  · exact Eq.mpr (congrArg (s.channel c).Alike cleared) ⟨rfl, rfl, rfl⟩

/-! ### The meter over the events -/

/-- The meter of a running part: one channel, VALID in GOVERNING, lost in HOLDING. -/
structure State.Metered (s : State) : Prop where
  meter : s.mode.running = true → ∃! c, (s.channel c).config.kind = .poiPower
  governing : s.mode = .governing → ∀ c, (s.channel c).config.kind = .poiPower → (s.channel c).state = .valid
  holding : s.mode = .holding → ∀ c, (s.channel c).config.kind = .poiPower → (s.channel c).state ≠ .valid ∧ (s.channel c).lossMark = true

theorem State.Metered.of_alike {s t : State} (h : s.Metered) (mode : t.mode = s.mode) (alike : ∀ c, (s.channel c).Alike (t.channel c)) : t.Metered where
  meter runs := by simpa only [(alike _).kind] using h.meter (mode ▸ runs)
  governing mode' c poi := by rw [(alike c).state]; exact h.governing (mode ▸ mode') c ((alike c).kind ▸ poi)
  holding mode' c poi := by rw [(alike c).state, (alike c).lossMark]; exact h.holding (mode ▸ mode') c ((alike c).kind ▸ poi)

theorem State.Metered.of_idle {s : State} (idle : s.mode.running = false) : s.Metered where
  meter runs := by rw [idle] at runs; cases runs
  governing mode := by rw [mode] at idle; cases idle
  holding mode := by rw [mode] at idle; cases idle

theorem State.Metered.of_priming {s : State} (mode : s.mode = .priming) (meter : ∃! c, (s.channel c).config.kind = .poiPower) : s.Metered where
  meter _ := meter
  governing mode' := by rw [mode] at mode'; cases mode'
  holding mode' := by rw [mode] at mode'; cases mode'

/-- A measured power is that of a VALID meter (R21). -/
theorem State.valid_of_measuredPower {s : State} {power : Int} (measured : s.measuredPower = some power) :
    ∃ c, (s.channel c).config.kind = .poiPower ∧ (s.channel c).state = .valid := by
  unfold State.measuredPower at measured
  split at measured
  case h_1 d found =>
    split at measured
    case isTrue valid =>
      have poi := List.find?_some found
      obtain ⟨c, _, rfl⟩ := List.mem_map.1 (List.mem_of_find?_eq_some found)
      exact ⟨c, by simpa using poi, valid⟩
    case isFalse => cases measured
  case h_2 => cases measured

/-- A frame leaves the mode in every mode but PRIMING (R6). -/
theorem State.mode_workFrame {s : State} (h : s.mode ≠ .priming) : s.workFrame.mode = s.mode := by
  unfold State.workFrame
  split
  case h_1 mode => exact absurd mode h
  · obtain ⟨_, _, _, _, _, _, _, _, eq⟩ := s.divided_eq
    rw [State.governFrame_eq, State.mode_of_frame (State.frame_emitFrame _), eq]
  · obtain ⟨_, _, _, _, _, _, _, eq⟩ := s.holdFrame_eq
    rw [eq]
  · rfl
  · rfl

theorem State.scan_workFrame (s : State) : s.workFrame.scan = s.scan := by
  unfold State.workFrame
  split
  · cases primed : s.primed s.primingCount with
    | none =>
      obtain ⟨_, _, eq⟩ := State.primeFrame_eq_of_none primed
      rw [eq]
    | some power =>
      obtain ⟨_, _, eq⟩ := State.primeFrame_eq_of_some primed
      rw [eq]
  · obtain ⟨_, _, _, _, _, _, _, _, eq⟩ := s.divided_eq
    rw [State.governFrame_eq, State.scan_of_frame (State.frame_emitFrame _), eq]
  · obtain ⟨_, _, _, _, _, _, _, eq⟩ := s.holdFrame_eq
    rw [eq]
  · rfl
  · rfl

theorem State.Metered.workFrame {s : State} (h : s.Metered) : s.workFrame.Metered := by
  by_cases mode : s.mode = .priming
  · have worked : s.workFrame = s.primeFrame := by unfold State.workFrame; rw [mode]
    have meter := h.meter (by rw [mode]; rfl)
    cases primed : s.primed s.primingCount with
    | none =>
      refine h.of_alike ?_ fun c => by rw [s.channel_workFrame]; exact .refl _
      obtain ⟨_, _, eq⟩ := State.primeFrame_eq_of_none primed
      rw [worked, eq]
    | some power =>
      have measured : s.measuredPower = some power := by
        unfold State.primed at primed
        split at primed
        exacts [primed, nomatch primed]
      obtain ⟨c, poi, valid⟩ := State.valid_of_measuredPower measured
      have seeded : s.workFrame.mode = .governing := by
        obtain ⟨_, _, eq⟩ := State.primeFrame_eq_of_some primed
        rw [worked, eq]
      refine ⟨fun _ => by simpa only [s.channel_workFrame] using meter, fun _ d poi' => ?_, fun held => by rw [seeded] at held; cases held⟩
      rw [s.channel_workFrame] at poi' ⊢
      rwa [meter.unique poi' poi]
  · exact h.of_alike (State.mode_workFrame mode) fun c => by rw [s.channel_workFrame]; exact .refl _

/-- A sample leaves the mode, or returns the meter that HOLDING waits for (R68). -/
theorem State.mode_sampleChannel (s : State) (i : ChannelIndex) (v : Int) :
    (s.sampleChannel i v).mode =
      if s.mode = .holding ∧ (s.channel i).returnsMeter = true ∧ ((s.channel i).newValue v).isSome = true then .governing else s.mode := by
  unfold State.sampleChannel
  simp only
  split
  case h_1 none => simp [none]
  case h_2 value found =>
    split
    case isTrue returns =>
      unfold State.meterReturn
      by_cases held : s.mode = .holding <;> simp [held, returns, found]
    case isFalse stays => simp [stays]

theorem State.Metered.sampleChannel {s : State} (h : s.Metered) (scanned : s.mode.running = true) (i : ChannelIndex) (v : Int) :
    (s.sampleChannel i v).Metered := by
  have kind (c : ChannelIndex) : ((s.sampleChannel i v).channel c).config.kind = (s.channel c).config.kind := by
    rw [s.channel_sampleChannel]
    split
    case isTrue same => rw [Channel.config_takeSample, same]
    case isFalse => rfl
  have unique := h.meter scanned
  refine ⟨fun _ => by simpa only [kind] using unique, fun mode c poi => ?_, fun mode c poi => ?_⟩
  all_goals
    rw [kind] at poi
    rw [s.mode_sampleChannel] at mode
    rw [s.channel_sampleChannel]
  · split at mode
    case isTrue returned =>
      obtain ⟨held, returns, new⟩ := returned
      have meter : (s.channel i).config.kind = .poiPower := by
        simp only [Channel.returnsMeter, Bool.and_eq_true, beq_iff_eq] at returns
        exact returns.1.1
      obtain ⟨value, found⟩ := Option.isSome_iff_exists.1 new
      rw [if_pos (unique.unique poi meter), Channel.state_takeSample_of_some found]
    case isFalse =>
      have valid := h.governing mode c poi
      split
      case isTrue same =>
        subst same
        cases found : (s.channel c).newValue v with
        | some value => exact Channel.state_takeSample_of_some found
        | none => rw [Channel.takeSample_of_none found, Channel.state_gather, valid]; rfl
      case isFalse => exact valid
  · split at mode
    · cases mode
    case isFalse stays =>
      obtain ⟨lost, mark⟩ := h.holding mode c poi
      split
      case isTrue same =>
        subst same
        have returns : (s.channel c).returnsMeter = true := by simp [Channel.returnsMeter, poi, lost, mark]
        have found : (s.channel c).newValue v = none := by
          rw [← Option.not_isSome_iff_eq_none]
          exact fun new => stays ⟨mode, returns, new⟩
        rw [Channel.takeSample_of_none found, Channel.state_gather, Channel.lossMark_gather]
        refine ⟨?_, mark⟩
        split
        exacts [nofun, lost]
      case isFalse => exact ⟨lost, mark⟩

theorem State.Metered.missChannel {s : State} (h : s.Metered) (scanned : s.mode.running = true) (i : ChannelIndex) (ordered : (s.channel i).InOrder) :
    (s.missChannel i).Metered := by
  have kind (c : ChannelIndex) : ((s.missChannel i).channel c).config.kind = (s.channel c).config.kind := by
    rw [s.channel_missChannel]
    split
    case isTrue same => rw [Channel.config_takeMissing, same]
    case isFalse => rfl
  have unique := h.meter scanned
  refine ⟨fun _ => by simpa only [kind] using unique, fun mode c poi => ?_, fun mode c poi => ?_⟩
  all_goals
    rw [kind] at poi
    rw [s.channel_missChannel]
  · obtain ⟨_, ⟨eq, keeps⟩ | ⟨_, _, eq⟩⟩ := s.missChannel_eq i
    · rw [eq] at mode
      have valid := h.governing mode c poi
      split
      case isTrue same =>
        subst same
        rcases (s.channel c).takeMissing_cases with ⟨lost, _, _⟩ | ⟨state, _⟩
        · have keeps := keeps mode
          simp [Channel.losesMeter, poi, lost, valid, ordered.mark valid] at keeps
        · rw [state, valid]
      case isFalse => exact valid
    · rw [eq] at mode
      cases mode
  · obtain ⟨_, ⟨eq, _⟩ | ⟨_, loses, eq⟩⟩ := s.missChannel_eq i
    · rw [eq] at mode
      obtain ⟨lost, mark⟩ := h.holding mode c poi
      split
      case isTrue same =>
        subst same
        rcases (s.channel c).takeMissing_cases with ⟨now, marked, _⟩ | ⟨state, same⟩
        · rw [now, marked]; exact ⟨nofun, rfl⟩
        · rw [state, same]; exact ⟨lost, mark⟩
      case isFalse => exact ⟨lost, mark⟩
    · simp only [Channel.losesMeter, Bool.and_eq_true, beq_iff_eq, bne_iff_ne] at loses
      obtain ⟨⟨⟨meter, lost⟩, was⟩, _⟩ := loses
      rw [if_pos (unique.unique poi meter)]
      rcases (s.channel i).takeMissing_cases with ⟨now, marked, _⟩ | ⟨state, _⟩
      · rw [now, marked]; exact ⟨nofun, rfl⟩
      · exact absurd (state ▸ lost) was

/-- A configuration that passes the cross-checks has one meter (R141). -/
theorem Configuration.meter_of_passed {c : Configuration} (passed : c.crossCheck = .passed) : ∃! i : ChannelIndex, c.channels[i].kind = .poiPower := by
  obtain ⟨meter, _⟩ := (crossChecksPassExactlyWhenAllHold c).1.1 passed
  exact meter

theorem Channel.config_restarted (c : Channel) : c.restarted.config = c.config := by
  unfold Channel.restarted
  split <;> rfl

theorem State.Effect.metered {s w : State} (e : s.Effect w) (follows : s.FollowsMode) (h : s.ChannelsInOrder) : w.Metered := by
  have metered : s.Metered := ⟨h.meter, h.governing, h.holding⟩
  have running {scan : Scan} (awaited : s.scan = some scan) : s.mode.running = true := follows.scan (by rw [awaited]; rfl)
  cases e.shape with
  | loaded memory _ eq =>
    rcases s.endLoading_cases memory with ⟨c, ok, loaded⟩ | ⟨e, _, loaded⟩
    · rw [eq, loaded]
      refine .of_priming (State.mode_enterPriming _) ?_
      have passed : c.crossCheck = .passed := (judgeImage_induction (P := fun _ => True) trivial (fun _ _ _ _ _ => trivial) ok).2
      simpa only [State.channel_enterPriming, State.channel_loadedWith, Channel.config_restarted, configuredChannel] using c.meter_of_passed passed
    · rw [eq, loaded]
      exact .of_idle (by rw [State.mode_enterStandby]; rfl)
  | expired _ eq =>
    rw [eq]
    exact (metered.of_alike (t := s.prepareFrame) s.mode_prepareFrame fun c => by rw [s.channel_prepareFrame]; exact .refl _).workFrame
  | scanned _ _ eq => rw [eq]; exact metered.of_alike (s.mode_visit _) (s.alike_visit _)
  | sampled scan v awaited eq =>
    rw [eq]
    exact (metered.sampleChannel (running awaited) scan.channel v).of_alike (State.mode_visit _ _) (State.alike_visit _ _)
  | missed scan awaited eq =>
    rw [eq]
    exact (metered.missChannel (running awaited) scan.channel (h.channels _)).of_alike (State.mode_visit _ _) (State.alike_visit _ _)
  | started t _ passed frame eq =>
    rw [eq]
    refine .of_priming (State.mode_enterPriming _) ?_
    have meter : ∃! c, (s.channel c).config.kind = .poiPower := by
      obtain ⟨i, poi, unique⟩ := Configuration.meter_of_passed passed
      exact ⟨i, by simpa [State.inForce, State.channel] using poi, fun j poi' => unique j (by simpa [State.inForce, State.channel] using poi')⟩
    have same (c : ChannelIndex) : t.channel c = s.channel c := (State.channel_of_frame frame c :)
    simpa only [State.channel_enterPriming, Channel.config_restarted, same] using meter
  | stopped t _ _ eq => rw [eq]; exact .of_idle (by rw [State.mode_enterStandby]; rfl)
  | chan f i c standby _ frame => exact .of_idle (by rw [State.mode_of_frame frame, standby]; rfl)
  | counters frame => exact metered.of_alike (State.mode_of_frame frame :) (State.alike_counted frame)
  | alarms ch each frame => exact metered.of_alike (State.mode_of_frame frame :) (State.alike_cleared each frame)
  | _ =>
    rename_i frame
    exact metered.of_alike (State.mode_of_frame frame :) fun c => by rw [State.channel_of_frame frame]; exact .refl _

/-- No event leaves a read awaited of an OFF channel. -/
theorem State.Effect.reads {s w : State} (e : s.Effect w) (follows : s.FollowsMode) (h : s.ChannelsInOrder) {scan : Scan} (awaited : w.scan = some scan) :
    (w.channel scan.channel).state ≠ .off := by
  have stopped (idle : w.mode.running = false) : (w.channel scan.channel).state ≠ .off := by
    have := (e.followsMode follows).scan (by rw [awaited]; rfl)
    rw [idle] at this
    cases this
  have unscanned (standby : s.mode = .standby) (same : w.scan = s.scan) : (w.channel scan.channel).state ≠ .off := by
    have := follows.scan (by rw [← same, awaited]; rfl)
    rw [standby] at this
    cases this
  have still (same : w.scan = s.scan) (alike : ∀ c, (s.channel c).Alike (w.channel c)) : (w.channel scan.channel).state ≠ .off := by
    rw [(alike _).state]
    exact h.reading scan (same ▸ awaited)
  cases e.shape with
  | loaded memory reading eq =>
    have loading := follows.reading.1 reading
    rcases s.endLoading_cases memory with ⟨c, ok, loaded⟩ | ⟨e, _, loaded⟩
    · have same : w.scan = s.scan := by
        obtain ⟨_, _, entered⟩ := (s.loadedWith c).enterPriming_eq
        rw [eq, loaded, entered]
        rfl
      have := follows.scan (by rw [← same, awaited]; rfl)
      rw [loading] at this
      cases this
    · exact stopped (by rw [eq, loaded, State.mode_enterStandby]; rfl)
  | expired _ eq =>
    have same : w.scan = s.scan := by
      rw [eq, State.scan_workFrame]
      obtain ⟨_, _, _, _, _, prepared⟩ := s.prepareFrame_eq
      rw [prepared]
    rw [eq, State.channel_workFrame, State.channel_prepareFrame]
    exact h.reading scan (same ▸ awaited)
  | scanned _ _ eq => rw [eq] at awaited ⊢; exact State.reading_visit _ _ awaited
  | sampled _ v _ eq => rw [eq] at awaited ⊢; exact State.reading_visit _ _ awaited
  | missed _ _ eq => rw [eq] at awaited ⊢; exact State.reading_visit _ _ awaited
  | started t standby _ frame eq =>
    refine unscanned standby ?_
    obtain ⟨_, _, entered⟩ := t.enterPriming_eq
    rw [eq, entered]
    exact (State.scan_of_frame frame :)
  | stopped t _ _ eq => exact stopped (by rw [eq, State.mode_enterStandby]; rfl)
  | chan f i c standby _ frame => exact stopped (by rw [State.mode_of_frame frame, standby]; rfl)
  | counters frame => exact still (State.scan_of_frame frame :) (State.alike_counted frame)
  | alarms ch each frame => exact still (State.scan_of_frame frame :) (State.alike_cleared each frame)
  | _ =>
    rename_i frame
    exact still (State.scan_of_frame frame :) fun c => by rw [State.channel_of_frame frame]; exact .refl _

theorem State.Effect.channelsInOrder {s w : State} (e : s.Effect w) (follows : s.FollowsMode) (h : s.ChannelsInOrder) : w.ChannelsInOrder :=
  have metered := e.metered follows h
  ⟨e.channels Channel.inOrder_kept h.reading h.channels, fun _ => e.reads follows h, metered.meter, metered.governing, metered.holding⟩

/-- Settles O57: each sample keeps its channel, and the meter enters and leaves VALID with the mode. -/
theorem stepsKeepTheChannelsInOrder : Obligations.StepsKeepTheChannelsInOrder := by
  intro s t follows channels stepped
  refine (step_keeps (P := fun s => s.FollowsMode ∧ s.ChannelsInOrder) (Q := fun s => s.FollowsMode ∧ s.ChannelsInOrder)
    ?_ ?_ ?_ ?_ ?_ ⟨follows, channels⟩ stepped).2
  · exact fun s rest ⟨f, h⟩ => ⟨f.congr rfl rfl rfl rfl rfl id fun _ _ a => a, h.channels, h.reading, h.meter, h.governing, h.holding⟩
  · exact fun s cause => ⟨(State.atStart_restarted s cause).followsMode, (State.atStart_restarted s cause).channelsInOrder⟩
  · exact fun s p q ⟨f, h⟩ => ⟨f.of_links rfl, h.channels, h.reading, h.meter, h.governing, h.holding⟩
  · exact fun s w ⟨f, h⟩ e => ⟨e.followsMode f, e.channelsInOrder f h⟩
  · exact fun w ⟨f, h⟩ => ⟨f.of_links rfl, h.channels, h.reading, h.meter, h.governing, h.holding⟩

end Sys2Proof.Machine
end

section
/-! Refused requests (O9). -/

namespace Sys2Proof.Machine

/-! ### The checks of a frame, in the manual's words -/

theorem lengthFits_eq_false_iff (role : Role) (r : Request) : lengthFits role r = false ↔
    (role = .storage ∧ ∃ o a d, r = .reportCluster o a d) ∨ (role = .cluster ∧ ∃ a d ch e k, r = .reportStorage a d ch e k) := by
  cases r <;> simp [lengthFits]

theorem claimFits_iff (role : Role) (r : Request) : claimFits role r = true ↔ ∀ code, r = .join code → code.toNat = role.code := by
  cases r <;> simp [claimFits]

section Judged
variable {s : State} {p : Port} {r : Request}

theorem State.judge_of_otherLength (length : lengthFits (s.config p).role r = false) : s.judge p r = s.nak p r.kind .length := by
  rw [State.judge, length]
  rfl

theorem State.judge_of_loading (length : lengthFits (s.config p).role r = true) (loading : s.mode = .loading) : s.judge p r = s.takeLoading p r := by
  simp [State.judge, length, loading]

theorem State.judge_of_role (length : lengthFits (s.config p).role r = true) (mode : s.mode ≠ .loading) (role : s.allows p r = false) :
    s.judge p r = s.nak p r.kind .role := by
  simp [State.judge, length, mode, role]

theorem State.judge_of_claim (length : lengthFits (s.config p).role r = true) (mode : s.mode ≠ .loading) (claim : claimFits (s.config p).role r = false) :
    s.judge p r = s.nak p r.kind .role := by
  cases role : s.allows p r <;> simp [State.judge, length, mode, role, claim]

/-- In LOADING every request but QUERY STATUS is refused (R137). -/
theorem State.takeLoading_refuses (other : ¬∃ i n, r = .query 0#8 i n) : s.takeLoading p r = s.nak p r.kind .state := by
  unfold State.takeLoading
  split
  case h_1 target index count =>
    split
    case isTrue status => exact absurd ⟨index, count, by rw [status]⟩ other
    case isFalse => rfl
  case h_2 => rfl

theorem State.take_idle (idle : s.mode.running = false) (owned : Request.ofController r = true ∨ ∃ b d e, r = .push b d e) :
    s.take p r = s.nak p r.kind .state := by
  have off : ¬s.mode.running = true := by rw [idle]; nofun
  cases r
  case join | reportCluster | reportStorage | yield | leave | push => simp only [State.take, if_neg off, Request.kind]
  all_goals rcases owned with other | ⟨_, _, _, other⟩ <;> cases other

theorem State.take_running (running : s.mode.running = true)
    (owned : (∃ f, r = .setSite f) ∨ (∃ f, r = .setPort f) ∨ (∃ f, r = .setChan f) ∨ ∃ b, r = .setProf b) : s.take p r = s.nak p r.kind .state := by
  have standby : s.mode ≠ .standby := (Mode.running_iff _ |>.1 running).2
  rcases owned with ⟨f, rfl⟩ | ⟨f, rfl⟩ | ⟨f, rfl⟩ | ⟨f, rfl⟩ <;> simp only [State.take, if_neg standby, Request.kind]

end Judged

/-- A request judged to a NAK gets that NAK, and nothing else changes. -/
theorem State.refuses {c : Instr} {s : State} {p : Port} {r : Request} {reason : NakReason} (asked : c.request = some (p, r))
    (judged : (s.acceptFrame p).judge p r = (s.acceptFrame p).nak p r.kind reason) :
    ∃ w : State, exec c s = .next w.settle ∧ s.Answers s w p [.nak r.kind reason] [] :=
  ⟨_, by rw [exec_of_request asked, State.receive, judged], s.answers_nak p r.kind reason⟩

theorem State.receiveFrame_of_unknown {s : State} {p : Port} {kind : Byte} (unknown : isRequestKind kind = false) (payload : List Byte) :
    s.receiveFrame p kind payload = ((s.acceptFrame p).nak p kind .kind).settle := by
  rw [State.receiveFrame, State.validate, unknown]
  rfl

/-- Settles O9: each check that a frame fails answers with its own NAK on the state once the frame is accepted. -/
theorem refusedRequestsGetOneNakEach : Obligations.RefusedRequestsGetOneNakEach := by
  refine ⟨fun c s p r asked => ?_, fun s p kind payload formed => ?_⟩
  · intro refusedWith otherLength claimed
    have refuses {reason : NakReason} (judged : (s.acceptFrame p).judge p r = (s.acceptFrame p).nak p r.kind reason) : refusedWith reason :=
      State.refuses asked judged
    have length (own : ¬otherLength) : lengthFits ((s.acceptFrame p).config p).role r = true := by
      rw [State.acceptFrame_config, ← Bool.not_eq_false]
      exact mt (lengthFits_eq_false_iff _ _).1 own
    have taken (own : ¬otherLength) (mode : s.mode ≠ .loading) (may : s.MayAsk p r) (claim : claimed) :
        (s.acceptFrame p).judge p r = (s.acceptFrame p).take p r := by
      refine State.judge_taken (length own) (by simpa using mode) ?_ (by simpa using (claimFits_iff _ _).2 claim)
      rwa [← State.allows_iff, State.allows_acceptFrame, State.allows_iff]
    refine ⟨fun other => ?_, fun own loading notStatus => ?_, fun own mode may => ?_, fun own mode may claim => ?_,
      fun own standby may claim owned => ?_, fun running may owned => ?_⟩
    · exact refuses (State.judge_of_otherLength (by rwa [State.acceptFrame_config, lengthFits_eq_false_iff]))
    · exact refuses ((State.judge_of_loading (length own) (by simpa using loading)).trans (State.takeLoading_refuses notStatus))
    · exact refuses (State.judge_of_role (length own) (by simpa using mode) (by rwa [State.allows_acceptFrame, State.allows_eq_false_iff]))
    · refine refuses (State.judge_of_claim (length own) (by simpa using mode) ?_)
      rw [State.acceptFrame_config, ← Bool.not_eq_true]
      exact mt (claimFits_iff _ _).1 claim
    · refine refuses ((taken own (by rw [standby]; nofun) may claim).trans (State.take_idle ?_ owned))
      rw [State.acceptFrame_mode, standby]
      rfl
    · have mode := (Mode.running_iff _).1 running
      have own : ¬otherLength := by
        rintro (⟨_, _, _, _, rfl⟩ | ⟨_, _, _, _, _, _, rfl⟩) <;> simp at owned
      have claim : claimed := by
        rintro code rfl
        simp at owned
      exact refuses ((taken own mode.1 may claim).trans (State.take_running (by rwa [State.acceptFrame_mode]) owned))
  · have unknown : isRequestKind kind = false := by
      simp only [Instr.wellFormed, Bool.and_eq_true, Bool.not_eq_true'] at formed
      simp_all
    exact ⟨_, by rw [← State.receiveFrame_of_unknown unknown payload]; rfl, s.answers_nak p kind .kind⟩

end Sys2Proof.Machine
end

section
/-! The requests of cluster and storage controllers (O10 to O14). -/

namespace Sys2Proof.Machine

/-! ### The receipt of a controller's request -/

theorem exec_controller {c : Instr} {s : State} {p : Port} {r : Request} (asked : c.request = some (p, r)) (controller : Request.ofController r = true)
    (length : lengthFits (s.config p).role r = true) (running : s.mode.running = true)
    (role : (s.config p).role = .cluster ∨ (s.config p).role = .storage) (claim : claimFits (s.config p).role r = true) :
    exec c s = .next ((s.acceptFrame p).take p r).settle := by
  rw [exec_of_request asked, State.receive_controller controller length ((Mode.running_iff _).1 running).1 role claim]

/-- A budget release where a record's committed value stands at `v`. -/
theorem State.releaseIfFallen_eq {s : State} {p : Port} {v was : Int} (h : (s.record p).committed = v) :
    s.releaseIfFallen p was = if v < was then s.budgetRelease else s := by
  rw [State.releaseIfFallen, h]

theorem State.sendKeep_setRecord (s : State) (p : Port) (r : PortRecord) :
    (s.setRecord p r).sendKeep p = (s.setRecord p r).sendLimit p .keep r.committed := by
  simp [State.sendKeep]

/-! ### JOIN -/

theorem State.takeJoin_eq (s : State) (p : Port) :
    s.takeJoin p =
      (((s.ack p 0x10#8).setRecord p ((s.record p).joined (s.config p))).sendLimit p .keep (s.config p).rest).releaseIfFallen p (s.record p).committed := by
  unfold State.takeJoin
  simp only [State.sendKeep_setRecord, State.ack_record]
  rfl

/-- Settles O10: the receipt queues the ACK, writes the joined record, and queues KEEP at its committed value. -/
theorem joinEngagesThePortAtFallbackOrZero : Obligations.JoinEngagesThePortAtFallbackOrZero := by
  intro s p code running claimed
  simp only [← State.config_rest]
  have role : (s.config p).role = .cluster ∨ (s.config p).role = .storage := claimed.imp And.left And.left
  have claim : claimFits (s.config p).role (.join code) = true := by
    rcases claimed with ⟨role, rfl⟩ | ⟨role, rfl⟩ <;> rw [role] <;> rfl
  have answered := ((s.answers_acceptFrame p).ack 0x10#8).setRecord_sendLimit .keep (s.config p).rest
    (r := { (s.record p).joined (s.config p) with lastSent := some (s.config p).rest }) (r' := ((s.acceptFrame p).record p).joined (s.config p))
    (by simp [PortRecord.joined])
  refine ⟨_, answered, ?_⟩
  rw [exec_controller (r := .join code) rfl rfl rfl running role claim, State.take, if_pos (by rwa [State.acceptFrame_mode]), State.takeJoin_eq,
    State.acceptFrame_config, State.releaseIfFallen_eq (v := (s.config p).rest) (by simp [PortRecord.joined])]
  simp only [State.record_acceptFrame, if_pos, apply_ite State.settle]

/-! ### REPORT -/

theorem clamp_natCast {b : Int} (h : 0 ≤ b) (n : Nat) : clamp 0 b n = min (n : Int) b := by
  rw [clamp_eq h]
  omega

/-- A cluster REPORT's values, each the smaller of it and the rating (R124). -/
theorem PortRecord.storeCluster_eq {c : PortConfig} (rated : 0 ≤ c.rated) (r : PortRecord) (output available applied : Nat) :
    r.storeCluster c output available applied =
      { r with cluster := ⟨min (output : Int) c.rated, min (available : Int) c.rated, min (applied : Int) c.rated⟩, reportAge := 0 } := by
  simp only [PortRecord.storeCluster, clamp_natCast rated]

/-- A storage REPORT's values, the capacity before the SoE (R77). -/
theorem PortRecord.storeStorage_eq {c : PortConfig} (rated : 0 ≤ c.rated) (ratedCharge : 0 ≤ c.ratedCharge) (r : PortRecord) (applied : Int)
    (discharge charge soe capacity : Nat) :
    r.storeStorage c applied discharge charge soe capacity =
      { r with
        storage :=
          { r.storage with
            capacity := min (capacity : Int) 4000000000, soe := min (soe : Int) (min (capacity : Int) 4000000000)
            discharge := min (discharge : Int) c.rated, charge := min (charge : Int) c.ratedCharge
            applied := max (-c.ratedCharge) (min applied c.rated) }
        reportAge := 0 } := by
  have capacityFits : 0 ≤ min (capacity : Int) 4000000000 := by omega
  simp only [PortRecord.storeStorage, clamp_natCast (show (0 : Int) ≤ 4000000000 by decide), clamp_natCast capacityFits, clamp_natCast rated,
    clamp_natCast ratedCharge, clamp_eq (show -c.ratedCharge ≤ c.rated by omega)]

theorem State.returnPort_of_heard {s : State} {p : Port} (heard : (s.record p).silent = false) : s.returnPort p = s := by
  simp [State.returnPort, heard]

section Overrun
variable {s : State} {p : Port} {r : PortRecord}

theorem State.checkOverrun_of_absent (absent : r.participation = .absent) : (s.setRecord p r).checkOverrun p = s.setRecord p r := by
  simp [State.checkOverrun, absent]

theorem State.checkOverrun_of_within (present : r.participation ≠ .absent) (within : ¬r.committed + s.site.margin < r.cluster.output) :
    (s.setRecord p r).checkOverrun p = s.setRecord p { r with overrunRun := 0, overrun := false } := by
  simp [State.checkOverrun, State.overrunRunAfter, present, within]

theorem State.checkOverrun_of_above (present : r.participation ≠ .absent) (above : r.committed + s.site.margin < r.cluster.output) :
    (s.setRecord p r).checkOverrun p =
      if countUp 3 r.overrunRun = 3 ∧ r.overrun = false then
        (s.setRecord p { r with overrunRun := 3, overrun := true }).raise (.portOverrun p r.cluster.output)
      else s.setRecord p { r with overrunRun := countUp 3 r.overrunRun } := by
  have counts : countUp 3 r.overrunRun ≠ 0 := by
    unfold countUp
    split <;> omega
  have run : (s.setRecord p r).overrunRunAfter r = countUp 3 r.overrunRun := by
    simp [State.overrunRunAfter, above, Config.overrunLimit]
  have same : (s.setRecord p r).record p = r := by simp
  rw [State.checkOverrun]
  simp only [same, if_neg present, run, if_neg counts, State.setRecord_setRecord, Config.overrunLimit]
  split
  case isTrue first => rw [first.1]
  case isFalse => rfl

end Overrun

/-- Settles O11: the values are stored on a port that has been heard, and a cluster's output is then set against its ceiling and the margin. -/
theorem reportsAreStored : Obligations.ReportsAreStored := by
  refine ⟨fun s p output available applied running role rated heard => ?_,
    fun s p applied discharge charge soe capacity running role rated ratedCharge heard => ?_⟩
  all_goals
    have speaks : ((s.acceptFrame p).record p).silent = false := by
      simpa [PortRecord.silent] using heard
  · intro r within stored above run effect
    have taken : exec (.reportCluster p output available applied) s =
        .next (((s.acceptFrame p).setRecord p { stored with silence := 0 }).checkOverrun p).settle := by
      rw [exec_controller (r := .reportCluster output available applied) rfl rfl (by rw [role]; rfl) running (.inl role) rfl, State.take,
        if_pos (by rwa [State.acceptFrame_mode]), State.takeClusterReport, State.acceptFrame_config, PortRecord.storeCluster_eq rated,
        State.returnPort_of_heard (by simpa [PortRecord.silent] using speaks)]
      simp [stored, within, r]
    have answers (record : PortRecord) :
        s.Answers { s with records := s.records.set p record } ((s.acceptFrame p).setRecord p { record with silence := 0 }) p [] [] :=
      (s.answers_acceptFrame p).setRecord rfl
    have runs : run = countUp 3 r.overrunRun := rfl
    refine ⟨fun absent => ⟨_, ?_, answers stored⟩, fun present below => ⟨_, ?_, answers { stored with overrunRun := 0, overrun := false }⟩,
      fun present exceeds third clear => ⟨_, ?_, (answers { stored with overrunRun := 3, overrun := true }).raise _⟩,
      fun present exceeds other => ⟨_, ?_, answers { stored with overrunRun := run }⟩⟩
    · have checked := State.checkOverrun_of_absent (s := s.acceptFrame p) (p := p) (r := { stored with silence := 0 }) absent
      rw [taken, checked]
    · have checked := State.checkOverrun_of_within (s := s.acceptFrame p) (p := p) (r := { stored with silence := 0 }) present
        (by rw [State.acceptFrame_site]; exact below)
      rw [taken, checked]
    · have checked := State.checkOverrun_of_above (s := s.acceptFrame p) (p := p) (r := { stored with silence := 0 }) present
        (by rw [State.acceptFrame_site]; exact exceeds)
      rw [taken, checked, if_pos ⟨runs ▸ third, clear⟩]
    · have checked := State.checkOverrun_of_above (s := s.acceptFrame p) (p := p) (r := { stored with silence := 0 }) present
        (by rw [State.acceptFrame_site]; exact exceeds)
      rw [taken, checked, if_neg (runs ▸ other)]
      rfl
  · intro c r cap stored
    refine ⟨_, ?_, (s.answers_acceptFrame p).setRecord rfl⟩
    rw [exec_controller (r := .reportStorage applied discharge charge soe capacity) rfl rfl (by rw [role]; rfl) running (.inr role) rfl, State.take,
      if_pos (by rwa [State.acceptFrame_mode]), State.takeStorageReport, State.acceptFrame_config, PortRecord.storeStorage_eq rated ratedCharge,
      State.returnPort_of_heard (by simpa [PortRecord.silent] using speaks)]
    simp [stored, cap, c, r, signed]

/-! ### The return of a silent port -/

section Returned
variable {s : State} {p : Port} {r : PortRecord} {value : Int}

theorem State.returnPort_lowers {u : Recall} (silent : r.silent = true) (counted : (s.setRecord p r).returnedValue p = value)
    (recalled : r.outstanding = some u) (stands : u.value < value) :
    (s.setRecord p r).returnPort p =
      ((s.setRecord p { r with committed := value, participation := .recalling, cause := none, outstanding := some u }).sendLimit p .lower
        u.value).releaseIfFallen p r.committed := by
  have same : (s.setRecord p r).record p = r := by simp
  rw [State.returnPort, same, if_pos silent, counted]
  simp [PortRecord.returned, recalled, stands, State.sendLower]

theorem State.returnPort_keeps (silent : r.silent = true) (counted : (s.setRecord p r).returnedValue p = value)
    (ends : ¬∃ u, r.outstanding = some u ∧ u.value < value) :
    (s.setRecord p r).returnPort p =
      ((s.setRecord p { r with committed := value, participation := .engaged, cause := none, outstanding := none }).sendLimit p .keep
        value).releaseIfFallen p r.committed := by
  have same : (s.setRecord p r).record p = r := by simp
  have left : r.returned value = { r with committed := value, participation := .engaged, cause := none, outstanding := none } := by
    rcases r.returned_cases value with ⟨u, recalled, stands, _⟩ | eq
    exacts [absurd ⟨u, recalled, stands⟩ ends, eq]
  rw [State.returnPort, same, if_pos silent, counted, left]
  simp only [State.setRecord_setRecord, State.sendKeep_setRecord]

/-- The value a silent port comes back at (R122). -/
theorem State.returnedValue_setRecord (s : State) (p : Port) (r : PortRecord) :
    (s.setRecord p r).returnedValue p =
      if s.mode = .priming then r.committed else (s.config p).clampValue (min (r.applied (s.config p)) r.committed) := by
  simp [State.returnedValue]

end Returned

/-- Settles O12: the stored REPORT finds the port silent, and the return writes the record and queues the LIMIT of its recall or its value. -/
theorem reportReturnsASilentPort : Obligations.ReportReturnsASilentPort := by
  intro c s p running stale cause t old returnsWith
  have returns {stored : PortRecord} {least applied : Int} {check : State → State}
      (same : stored.participation = old.participation ∧ stored.cause = old.cause ∧ stored.outstanding = old.outstanding ∧
        stored.committed = old.committed)
      (counted : ((s.acceptFrame p).setRecord p { stored with reportAge := 0, silence := 0 }).returnedValue p =
        if s.mode = .priming then old.committed else max least (min (min applied old.committed) t.rated))
      (taken : exec c s = .next (check (((s.acceptFrame p).setRecord p { stored with reportAge := 0, silence := 0 }).returnPort p)).settle) :
      returnsWith stored least applied check := by
    obtain ⟨participation, why, outstanding, committed⟩ := same
    have silent : ({ stored with reportAge := 0, silence := 0 } : PortRecord).silent = true := by
      simp [PortRecord.silent, participation, why, old, stale, cause]
    unfold returnsWith
    intro value stands answers
    refine ⟨fun lies u recalled => ?_, fun ends => ?_⟩
    · obtain ⟨u', recalled', below⟩ := lies
      obtain rfl : u' = u := Option.some.inj (recalled'.symm.trans recalled)
      have answered := (s.answers_acceptFrame p).setRecord_sendLimit .lower u'.value
        (r := { stored with
          committed := value, participation := .recalling, cause := none, outstanding := some u', lastSent := some u'.value, reportAge := 0 })
        (r' := { stored with
          committed := value, participation := .recalling, cause := none, outstanding := some u', reportAge := 0, silence := 0 }) rfl
      refine ⟨_, answered, ?_⟩
      rw [taken, State.returnPort_lowers silent counted (outstanding.trans recalled) below, State.releaseIfFallen_eq (v := value) (by simp only [State.record_sendLimit, State.record_setRecord, if_pos]; rfl)]
      simp only [committed]
      rfl
    · have answered := (s.answers_acceptFrame p).setRecord_sendLimit .keep value
        (r := { stored with
          committed := value, participation := .engaged, cause := none, outstanding := none, lastSent := some value, reportAge := 0 })
        (r' := { stored with
          committed := value, participation := .engaged, cause := none, outstanding := none, reportAge := 0, silence := 0 }) rfl
      refine ⟨_, answered, ?_⟩
      rw [taken, State.returnPort_keeps silent counted (by simpa only [outstanding] using ends), State.releaseIfFallen_eq (v := value) (by simp only [State.record_sendLimit, State.record_setRecord, if_pos]; rfl)]
      simp only [committed]
      rfl
  refine ⟨fun output available applied is role rated => ?_, fun applied discharge charge soe capacity is role rated ratedCharge => ?_⟩
  · have ofCluster : (s.config p).role = .cluster := role
    have order : 0 ≤ (s.config p).rated := rated
    refine returns (stored := { old with cluster := ⟨min (output.toNat : Int) t.rated, min (available.toNat : Int) t.rated, min (applied.toNat : Int) t.rated⟩ })
      (check := fun w => w.checkOverrun p) ?_ ?_ ?_
    · exact ⟨rfl, rfl, rfl, rfl⟩
    · have clamped (v : Int) : (s.config p).clampValue v = max 0 (min v t.rated) := by
        simp only [PortConfig.clampValue, PortConfig.least, ofCluster, clamp_eq order]
        rfl
      rw [State.returnedValue_setRecord, State.acceptFrame_mode, State.acceptFrame_config]
      simp only [clamped, PortRecord.applied, ofCluster]
    · rw [is, exec_controller (r := .reportCluster output available applied) rfl rfl (by rw [role]; rfl) running (.inl role) rfl, State.take,
        if_pos (by rwa [State.acceptFrame_mode]), State.takeClusterReport, State.acceptFrame_config, PortRecord.storeCluster_eq rated]
      simp [old]
  · intro cap app
    have ofStorage : (s.config p).role = .storage := role
    have order : -(s.config p).ratedCharge ≤ (s.config p).rated := (neg_nonpos.2 ratedCharge).trans rated
    refine returns ?_ ?_ ?_
    · exact ⟨rfl, rfl, rfl, rfl⟩
    · have clamped (v : Int) : (s.config p).clampValue v = max (-t.ratedCharge) (min v t.rated) := by
        simp only [PortConfig.clampValue, PortConfig.least, ofStorage, clamp_eq order]
        rfl
      rw [State.returnedValue_setRecord, State.acceptFrame_mode, State.acceptFrame_config]
      simp only [clamped, PortRecord.applied, ofStorage]
    · rw [is, exec_controller (r := .reportStorage applied discharge charge soe capacity) rfl rfl (by rw [role]; rfl) running (.inr role) rfl, State.take,
        if_pos (by rwa [State.acceptFrame_mode]), State.takeStorageReport, State.acceptFrame_config, PortRecord.storeStorage_eq rated ratedCharge]
      simp [old, cap, app, t, signed]

/-! ### YIELD -/

section Yielded
variable {s : State} {p : Port} {value : Int}

theorem State.takeYield_unrecalled (recalled : (s.record p).outstanding = none) :
    s.takeYield p value = (s.setRecord p (s.record p).yieldRefused).nak p 0x12#8 .noRecall := by
  simp [State.takeYield, recalled]

theorem State.takeYield_recalled {u : Recall} {v : Int} (recalled : (s.record p).outstanding = some u) (counted : (s.config p).clampValue value = v) :
    s.takeYield p value =
      if v ≤ u.value then ((s.setRecord p ((s.record p).fullyYielded v)).ack p 0x12#8).budgetRelease
      else if v ≤ (s.record p).committed then ((s.setRecord p ((s.record p).partlyYielded (s.config p) v)).ack p 0x12#8).budgetRelease
      else (s.setRecord p (s.record p).yieldRefused).nak p 0x12#8 .mismatch := by
  simp [State.takeYield, recalled, counted]

end Yielded

/-- Settles O13: the clamped value is set against the recall and then against the committed value. -/
theorem yieldIsJudgedAgainstTheRecall : Obligations.YieldIsJudgedAgainstTheRecall := by
  intro s p value running role rated ratedCharge r least v accepted refused
  have counted : ((s.acceptFrame p).config p).clampValue (signed value) = v := by
    have order : (s.config p).least ≤ (s.config p).rated := by
      rcases role with role | role <;> simp only [PortConfig.least, role] <;> omega
    have same : (s.config p).least = least := by rcases role with role | role <;> simp [PortConfig.least, least, role]
    rw [State.acceptFrame_config, PortConfig.clampValue, clamp_eq order, same]
    rfl
  have taken : exec (.yield p value) s = .next ((s.acceptFrame p).takeYield p (signed value)).settle := by
    rw [exec_controller (r := .yield value) rfl rfl rfl running role rfl, State.take, if_pos (by rwa [State.acceptFrame_mode])]
  have stored : (s.acceptFrame p).record p = { r with silence := 0 } := by simp [r]
  have judged {u : Recall} (recalled : r.outstanding = some u) :=
    State.takeYield_recalled (s := s.acceptFrame p) (p := p) (u := u) (by rw [stored]; exact recalled) counted
  have refuses {reason : NakReason}
      (eq : (s.acceptFrame p).takeYield p (signed value) =
        ((s.acceptFrame p).setRecord p ((s.acceptFrame p).record p).yieldRefused).nak p 0x12#8 reason) : refused reason := by
    refine ⟨_, taken.trans (by rw [eq]), ((s.answers_acceptFrame p).setRecord ?_).nak 0x12#8 reason⟩
    rw [stored, PortRecord.yieldRefused, advance_eq]
  refine ⟨fun u recalled below => ?_, fun u recalled above within => ?_, fun u recalled above beyond => ?_, fun recalled => ?_⟩
  · refine ⟨_, taken.trans (by rw [judged recalled, if_pos below]), ((s.answers_acceptFrame p).setRecord ?_).ack 0x12#8⟩
    rw [stored, PortRecord.fullyYielded]
  · refine ⟨_, taken.trans (by rw [judged recalled, if_neg (by omega), stored, if_pos within]), ((s.answers_acceptFrame p).setRecord ?_).ack 0x12#8⟩
    rw [PortRecord.partlyYielded, State.acceptFrame_config]
  · exact refuses (by rw [judged recalled, if_neg (by omega), stored, if_neg (by simp only; omega)])
  · exact refuses (State.takeYield_unrecalled (by rw [stored]; exact recalled))

/-! ### LEAVE -/

/-- Settles O14: a present port's record and queue are cleared after the ACK, and a fall in its committed value serves the others. -/
theorem leaveMakesThePortAbsent : Obligations.LeaveMakesThePortAbsent := by
  intro s p running role r fb
  have taken : exec (.leave p) s = .next ((s.acceptFrame p).takeLeave p).settle := by
    rw [exec_controller (r := .leave) rfl rfl rfl running role rfl, State.take, if_pos (by rwa [State.acceptFrame_mode])]
  have stored : (s.acceptFrame p).record p = { r with silence := 0 } := by simp [r]
  refine ⟨fun absent => ⟨_, ?_, s.answers_ack p 0x13#8⟩, fun present =>
    ⟨(((s.acceptFrame p).ack p 0x13#8).setRecord p (PortRecord.left (s.config p) { r with silence := 0 })).withdrawLimit p, ?_, ?_, ?_, fun q other => ?_, ?_⟩⟩
  · rw [taken, State.takeLeave, stored, if_pos absent]
  · rw [taken, State.takeLeave, stored, State.acceptFrame_config, if_neg present, State.releaseIfFallen_eq (v := fb) (by simp [PortRecord.left, State.config_rest, fb]),
      apply_ite State.settle]
  · simp [State.withdrawLimit, State.setRecord, State.setLink, State.ack, State.enqueue, State.acceptFrame]
  · simp [PortRecord.left, State.config_rest, fb]
  · simp [other]
  · simp [State.linkAfter, only]

end Sys2Proof.Machine
end

section
/-! Configuration requests in STANDBY, PUSH and DROP (O15 to O19). -/

namespace Sys2Proof.Machine

/-! ### Fields in their ranges, and the records they give -/

theorem inRange_iff (a b v : Int) : inRange a b v = true ↔ a ≤ v ∧ v ≤ b := by simp [inRange]

theorem SweepMode.ofCode_eq (code : Byte) :
    SweepMode.ofCode code = if code.toNat ≤ 1 then some (if code = 0 then .sequential else .interleaved) else none := by
  unfold SweepMode.ofCode
  split
  case h_1 zero => rw [show code = 0 from BitVec.eq_of_toNat_eq zero]; rfl
  case h_2 one => rw [show code = 1 from BitVec.eq_of_toNat_eq one]; rfl
  case h_3 notZero notOne => rw [if_neg (by simp only [imp_false] at notZero notOne; omega)]

theorem StartMode.ofCode_eq (code : Byte) :
    StartMode.ofCode code = if code.toNat ≤ 1 then some (if code = 0 then .rotate else .random) else none := by
  unfold StartMode.ofCode
  split
  case h_1 zero => rw [show code = 0 from BitVec.eq_of_toNat_eq zero]; rfl
  case h_2 one => rw [show code = 1 from BitVec.eq_of_toNat_eq one]; rfl
  case h_3 notZero notOne => rw [if_neg (by simp only [imp_false] at notZero notOne; omega)]

theorem Reduction.ofCode_eq (code : Byte) :
    Reduction.ofCode code =
      if code.toNat ≤ 3 then some (if code = 0 then .first else if code = 1 then .max else if code = 2 then .min else .mean) else none := by
  unfold Reduction.ofCode
  split
  case h_1 zero => rw [show code = 0 from BitVec.eq_of_toNat_eq zero]; rfl
  case h_2 one => rw [show code = 1 from BitVec.eq_of_toNat_eq one]; rfl
  case h_3 two => rw [show code = 2 from BitVec.eq_of_toNat_eq two]; rfl
  case h_4 three => rw [show code = 3 from BitVec.eq_of_toNat_eq three]; rfl
  case h_5 n₀ n₁ n₂ n₃ => rw [if_neg (by simp only [imp_false] at n₀ n₁ n₂ n₃; omega)]

/-- A kind code up to 3 names a kind, which has that code. -/
theorem ChannelKind.ofCode_eq_some_iff {code : Byte} {kind : ChannelKind} : ChannelKind.ofCode code = some kind ↔ kind.code = code.toNat := by
  unfold ChannelKind.ofCode
  split <;> cases kind <;> simp_all [ChannelKind.code] <;> omega

theorem ChannelKind.exists_code {n : Nat} (h : n ≤ 3) : ∃ kind : ChannelKind, kind.code = n := by
  interval_cases n
  exacts [⟨.off, rfl⟩, ⟨.poiPower, rfl⟩, ⟨.irradiance, rfl⟩, ⟨.aux, rfl⟩]

theorem Role.ofCode_eq_some_iff {code : Byte} {role : Role} : Role.ofCode code = some role ↔ role.code = code.toNat := by
  unfold Role.ofCode
  split <;> cases role <;> simp_all [Role.code] <;> omega

theorem siteOf_of_inRange {f : SiteFields} (h : f.InRange) : siteOf f = some
    { exportLimit := f.exportLimit.toNat, framePeriod := f.framePeriod.toNat, scanPeriod := f.scanPeriod.toNat
      yieldLimit := f.yieldLimit.toNat, silenceLimit := f.silenceLimit.toNat, primingFrames := f.primingFrames.toNat
      tolerance := f.tolerance.toNat, margin := f.margin.toNat
      sweepMode := if f.sweepMode = 0 then .sequential else .interleaved
      startMode := if f.startMode = 0 then .rotate else .random, seed := f.seed } := by
  obtain ⟨exportLimit, framePeriod, scanPeriod, yieldLimit, silenceLimit, primingFrames, tolerance, margin, sweepMode, startMode⟩ := h
  have primed := f.primingFrames.isLt
  rw [siteOf, SweepMode.ofCode_eq, StartMode.ofCode_eq, if_pos sweepMode, if_pos startMode]
  simp only [powerLimit]
  refine if_pos ?_
  simp only [inRange_iff, Bool.and_eq_true, beq_iff_eq]
  omega

theorem siteOf_of_not_inRange {f : SiteFields} (h : ¬f.InRange) : siteOf f = none := by
  rw [siteOf, SweepMode.ofCode_eq, StartMode.ofCode_eq]
  by_cases sweepMode : f.sweepMode.toNat ≤ 1
  · by_cases startMode : f.startMode.toNat ≤ 1
    · rw [if_pos sweepMode, if_pos startMode]
      simp only [powerLimit]
      refine if_neg fun fits => h ?_
      simp only [inRange_iff, Bool.and_eq_true, beq_iff_eq] at fits
      unfold SiteFields.InRange
      omega
    · rw [if_neg startMode]
      split <;> simp_all
  · rw [if_neg sweepMode]

theorem profileOf_inRange_iff (b : ProfileBlock) : (profileOf b).inRange = true ↔ b.InRange := by
  simp only [Profile.inRange, inRange_iff, Bool.and_eq_true, decide_eq_true_eq, powerLimit]
  simp only [profileOf, ProfileBlock.InRange]
  omega

theorem defaultProfileOf_of_inRange {b : ProfileBlock} (h : b.InRange) : defaultProfileOf b = some { profileOf b with bound := false } :=
  if_pos ((profileOf_inRange_iff b).2 h)

theorem defaultProfileOf_of_not_inRange {b : ProfileBlock} (h : ¬b.InRange) : defaultProfileOf b = none :=
  if_neg (mt (profileOf_inRange_iff b).1 h)

theorem channelConfigOf_of_inRange {f : ChannelFields} (h : f.InRange) : ∃ (i : ChannelIndex) (kind : ChannelKind),
    i.val = f.channel.toNat ∧ kind.code = f.kind.toNat ∧ channelConfigOf f = some (i,
      { kind := kind, address := f.address.toNat, skip := f.skip.toNat, gain := signed f.gain, offset := signed f.offset
        reduction := if f.reduction = 0 then .first else if f.reduction = 1 then .max else if f.reduction = 2 then .min else .mean
        groupSize := f.groupSize.toNat, averaging := f.averaging.toNat, missLimit := f.missLimit.toNat
        monitor := f.flags.getLsbD 0, notify := f.flags.getLsbD 1, low := signed f.low, high := signed f.high, decay := f.decay.toNat }) := by
  obtain ⟨channel, kind, address, reduction, groupSize, averaging, missLimit, decay⟩ := h
  obtain ⟨k, code⟩ := ChannelKind.exists_code kind
  have below : f.channel.toNat < 16 := by omega
  refine ⟨⟨f.channel.toNat, below⟩, k, rfl, code, ?_⟩
  rw [channelConfigOf, ChannelKind.ofCode_eq_some_iff.2 code, Reduction.ofCode_eq, if_pos reduction, channelOf, dif_pos below]
  simp only
  refine if_pos ?_
  simp only [inRange_iff, Bool.and_eq_true]
  omega

theorem channelConfigOf_of_not_inRange {f : ChannelFields} (h : ¬f.InRange) : channelConfigOf f = none := by
  unfold channelConfigOf
  split
  case h_1 i k r channel kind reduction =>
    refine if_neg fun fits => h ?_
    have below : f.channel.toNat < 16 := by
      unfold channelOf at channel
      split at channel
      case isTrue below => exact below
      case isFalse => cases channel
    have coded : f.kind.toNat ≤ 3 := by
      rw [← ChannelKind.ofCode_eq_some_iff.1 kind]
      cases k <;> decide
    have reduced : f.reduction.toNat ≤ 3 := by
      rw [Reduction.ofCode_eq] at reduction
      split at reduction
      case isTrue below => exact below
      case isFalse => cases reduction
    simp only [inRange_iff, Bool.and_eq_true] at fits
    unfold ChannelFields.InRange
    omega
  case h_2 => rfl

/-! ### The receipt of a supervisory request -/

theorem exec_supervised {c : Instr} {s : State} {p : Port} {r : Request} (asked : c.request = some (p, r)) (supervisory : Request.ofController r = false)
    (mode : s.mode ≠ .loading) (standing : s.Supervises p) : exec c s = .next ((s.acceptFrame p).take p r).settle := by
  rw [exec_of_request asked, State.receive_supervised supervisory mode standing]

theorem exec_configuring {c : Instr} {s : State} {p : Port} {r : Request} (asked : c.request = some (p, r)) (supervisory : Request.ofController r = false)
    (standby : s.mode = .standby) (standing : s.Supervises p) : exec c s = .next ((s.acceptFrame p).take p r).settle :=
  exec_supervised asked supervisory (by rw [standby]; nofun) standing

/-- An accepted frame over an effect that is no matter of links, records or standing. -/
theorem State.answers_over (s : State) (p : Port) (base : State) (records : base.records = s.records := by rfl) (mode : base.mode = s.mode := by rfl)
    (table : base.portTable = s.portTable := by rfl) :
    s.Answers base { base with links := (s.acceptFrame p).links, records := (s.acceptFrame p).records } p [] [] :=
  (s.answers_acceptFrame p).rebase rfl records mode table

/-! ### SETSITE and SETPROF -/

/-- Settles O15: with fields in range the record is the one they spell, and else the request's NAK. -/
theorem setSiteAndSetProfReplaceTheirRecord : Obligations.SetSiteAndSetProfReplaceTheirRecord := by
  refine ⟨fun s p f standby standing => ?_, fun s p b standby standing => ?_⟩
  · have taken : exec (.setSite p f) s = .next ((s.acceptFrame p).takeSetSite p f).settle := by
      rw [exec_configuring (r := .setSite f) rfl rfl standby standing, State.take, if_pos (by rwa [State.acceptFrame_mode])]
    refine ⟨fun fits => ⟨_, ?_, (s.answers_over p _).ack 0x23#8⟩, fun unfit => ⟨_, ?_, s.answers_nak p 0x23#8 .range⟩⟩
    · rw [taken, State.takeSetSite, siteOf_of_inRange fits]
      rfl
    · rw [taken, State.takeSetSite, siteOf_of_not_inRange unfit]
  · have taken : exec (.setProf p b) s = .next ((s.acceptFrame p).takeSetProf p b).settle := by
      rw [exec_configuring (r := .setProf b) rfl rfl standby standing, State.take, if_pos (by rwa [State.acceptFrame_mode])]
    refine ⟨fun fits => ⟨_, ?_, ((s.answers_over p _).ack 0x26#8).raise _⟩, fun unfit => ⟨_, ?_, s.answers_nak p 0x26#8 .range⟩⟩
    · rw [taken, State.takeSetProf, defaultProfileOf_of_inRange fits]
      simp only [State.listChange, State.ack_entries, State.acceptFrame_entries]
      rfl
    · rw [taken, State.takeSetProf, defaultProfileOf_of_not_inRange unfit]

/-! ### SETCHAN -/

/-- Settles O17: the configured channel has the fields' configuration and the start values of a run. -/
theorem setChanReplacesTheChannel : Obligations.SetChanReplacesTheChannel := by
  intro s p f standby standing
  have taken : exec (.setChan p f) s = .next ((s.acceptFrame p).takeSetChan p f).settle := by
    rw [exec_configuring (r := .setChan f) rfl rfl standby standing, State.take, if_pos (by rwa [State.acceptFrame_mode])]
  refine ⟨fun fits => ?_, fun unfit => ⟨_, ?_, s.answers_nak p 0x25#8 .range⟩⟩
  · obtain ⟨i, kind, named, code, found⟩ := channelConfigOf_of_inRange fits
    rw [State.takeSetChan, found] at taken
    refine ⟨_, i, named, taken, ?_, fun j other => ?_, ?_⟩
    · exact (s.answers_over p _).ack 0x25#8
    · simp [other]
    · have off : (kind = .off) = (f.kind = 0) := by
        rw [eq_iff_iff, ← BitVec.toNat_inj, ← code]
        cases kind <;> simp [ChannelKind.code]
      simp [code, configuredChannel, Channel.start, signed, off]
  · rw [taken, State.takeSetChan, channelConfigOf_of_not_inRange unfit]

/-! ### SETPORT -/

theorem Role.exists_code {n : Nat} (h : n ≤ 3) : ∃ role : Role, role.code = n := by
  interval_cases n
  exacts [⟨.unused, rfl⟩, ⟨.cluster, rfl⟩, ⟨.storage, rfl⟩, ⟨.supervisor, rfl⟩]

/-- The lead a code names: a channel's own number, or 255 for none (R139). -/
theorem leadOf_eq_some_iff {code : Byte} {lead : Option ChannelIndex} : leadOf code = some lead ↔ lead.elim 255 Fin.val = code.toNat := by
  unfold leadOf
  split
  case isTrue none =>
    subst none
    cases lead with
    | none => simp
    | some i =>
      have := i.isLt
      simp
      omega
  case isFalse named =>
    have other : code.toNat ≠ 255 := fun eq => named (BitVec.eq_of_toNat_eq eq)
    unfold channelOf
    split
    case isTrue below => cases lead <;> simp [Fin.ext_iff, other.symm, eq_comm]
    case isFalse above =>
      cases lead with
      | none => simp [other.symm]
      | some i =>
        have := i.isLt
        simp
        omega

theorem leadOf_eq_none_iff {code : Byte} : leadOf code = none ↔ ¬(code.toNat ≤ 15 ∨ code = 255#8) := by
  unfold leadOf channelOf
  split
  case isTrue none => simp [none]
  case isFalse named =>
    split
    case isTrue below => simp; omega
    case isFalse above => simp [named]; omega

/-- The ranges of an entry, by the role it names (R139). -/
theorem PortConfig.inRange_iff (c : PortConfig) : c.inRange = true ↔
    (c.role = .cluster ∧ 1 ≤ c.rated ∧ c.rated ≤ 1000000 ∧ 0 ≤ c.fallback ∧ c.fallback ≤ 1000000 ∧ c.ratedCharge = 0 ∧ c.reserve = 0) ∨
    (c.role = .storage ∧ 0 ≤ c.rated ∧ c.rated ≤ 1000000 ∧ c.fallback = 0 ∧ c.lead = none ∧ 0 ≤ c.ratedCharge ∧ c.ratedCharge ≤ 1000000 ∧
      0 ≤ c.reserve ∧ c.reserve ≤ 4000000) ∨
    ((c.role = .unused ∨ c.role = .supervisor) ∧ c.rated = 0 ∧ c.fallback = 0 ∧ c.lead = none ∧ c.ratedCharge = 0 ∧ c.reserve = 0) := by
  unfold PortConfig.inRange
  cases c.role <;> simp [Machine.inRange_iff, powerLimit, and_assoc]

theorem portConfigOf_of_inRange {f : PortFields} (h : f.InRange) : ∃ (p : Port) (c : PortConfig), p.val = f.port.toNat ∧ portConfigOf f = some (p, c) ∧
    c.role.code = f.role.toNat ∧ c.rated = f.rated.toNat ∧ c.fallback = f.fallback.toNat ∧ c.lead.elim 255 Fin.val = f.lead.toNat ∧
    c.ratedCharge = f.ratedCharge.toNat ∧ c.reserve = f.reserve.toNat := by
  obtain ⟨port, fields⟩ := h
  have spells {role : Role} {lead : Option ChannelIndex} (coded : role.code = f.role.toNat) (led : lead.elim 255 Fin.val = f.lead.toNat)
      (fits : (⟨role, f.rated.toNat, f.fallback.toNat, lead, f.ratedCharge.toNat, f.reserve.toNat⟩ : PortConfig).inRange = true) :
      portConfigOf f = some (⟨f.port.toNat, port⟩, ⟨role, f.rated.toNat, f.fallback.toNat, lead, f.ratedCharge.toNat, f.reserve.toNat⟩) := by
    rw [portConfigOf, Role.ofCode_eq_some_iff.2 coded, leadOf_eq_some_iff.2 led, portOf, dif_pos port]
    exact if_pos fits
  rcases fields with ⟨role, least, rated, fallback, lead, ratedCharge, reserve⟩ | ⟨role, rated, fallback, lead, ratedCharge, reserve⟩ |
    ⟨role, rated, fallback, lead, ratedCharge, reserve⟩
  · obtain ⟨l, found⟩ := Option.ne_none_iff_exists'.1 (mt leadOf_eq_none_iff.1 (not_not.2 lead))
    have coded : Role.cluster.code = f.role.toNat := by rw [role]; rfl
    have led := leadOf_eq_some_iff.1 found
    refine ⟨_, _, rfl, spells coded led ?_, coded, rfl, rfl, led, rfl, rfl⟩
    rw [PortConfig.inRange_iff]
    simp only [ratedCharge, reserve]
    simp
    omega
  · have coded : Role.storage.code = f.role.toNat := by rw [role]; rfl
    have led : (none : Option ChannelIndex).elim 255 Fin.val = f.lead.toNat := by rw [lead]; rfl
    refine ⟨_, _, rfl, spells coded led ?_, coded, rfl, rfl, led, rfl, rfl⟩
    rw [PortConfig.inRange_iff]
    simp only [fallback]
    simp
    omega
  · have led : (none : Option ChannelIndex).elim 255 Fin.val = f.lead.toNat := by rw [lead]; rfl
    have bare (r : Role) (named : r = .unused ∨ r = .supervisor) :
        (⟨r, f.rated.toNat, f.fallback.toNat, none, f.ratedCharge.toNat, f.reserve.toNat⟩ : PortConfig).inRange = true := by
      rw [PortConfig.inRange_iff, rated, fallback, ratedCharge, reserve]
      exact .inr (.inr ⟨named, rfl, rfl, rfl, rfl, rfl⟩)
    rcases role with role | role
    · have coded : Role.unused.code = f.role.toNat := by rw [role]; rfl
      exact ⟨_, _, rfl, spells coded led (bare _ (.inl rfl)), coded, rfl, rfl, led, rfl, rfl⟩
    · have coded : Role.supervisor.code = f.role.toNat := by rw [role]; rfl
      exact ⟨_, _, rfl, spells coded led (bare _ (.inr rfl)), coded, rfl, rfl, led, rfl, rfl⟩

theorem portConfigOf_of_not_inRange {f : PortFields} (h : ¬f.InRange) : portConfigOf f = none := by
  unfold portConfigOf
  split
  case h_1 p r l port role lead =>
    refine if_neg fun fits => h ⟨?_, ?_⟩
    · rw [portOf_eq_some_iff.1 port]
      exact p.isLt
    · have coded := Role.ofCode_eq_some_iff.1 role
      have byte {w : Nat} {v : BitVec w} {n : Nat} (bound : n < 2 ^ w) (eq : v.toNat = n) : v = BitVec.ofNat w n :=
        BitVec.eq_of_toNat_eq (by rw [eq, BitVec.toNat_ofNat, Nat.mod_eq_of_lt bound])
      have led := leadOf_eq_some_iff.1 lead
      have known : ¬leadOf f.lead = none := by rw [lead]; nofun
      rw [leadOf_eq_none_iff, not_not] at known
      rw [PortConfig.inRange_iff] at fits
      dsimp only at fits
      rcases fits with ⟨rfl, least, rated, _, fallback, ratedCharge, reserve⟩ | ⟨rfl, _, rated, fallback, rfl, _, ratedCharge, _, reserve⟩ |
        ⟨named, rated, fallback, rfl, ratedCharge, reserve⟩
      · exact .inl ⟨byte (n := 1) (by decide) coded.symm, by omega, by omega, by omega, known, byte (n := 0) (by decide) (by omega),
          byte (n := 0) (by decide) (by omega)⟩
      · exact .inr (.inl ⟨byte (n := 2) (by decide) coded.symm, by omega, byte (n := 0) (by decide) (by omega),
          byte (n := 255) (by decide) led.symm, by omega, by omega⟩)
      · refine .inr (.inr ⟨?_, byte (n := 0) (by decide) (by omega), byte (n := 0) (by decide) (by omega), byte (n := 255) (by decide) led.symm,
          byte (n := 0) (by decide) (by omega), byte (n := 0) (by decide) (by omega)⟩)
        rcases named with rfl | rfl
        exacts [.inl (byte (n := 0) (by decide) coded.symm), .inr (byte (n := 3) (by decide) coded.symm)]
  case h_2 => rfl

theorem LinkPort.enqueue_notices (l : LinkPort) (ns : List PendingNotice) (m : Message) :
    ({ l with notices := ns } : LinkPort).enqueue m = { l.enqueue m with notices := ns } := by
  unfold LinkPort.enqueue
  split <;> rfl

theorem LinkPort.notices_enqueue (l : LinkPort) (m : Message) : (l.enqueue m).notices = l.notices := by
  unfold LinkPort.enqueue
  split <;> rfl

section Configured
variable (s : State) (p q : Port) (c : PortConfig)

theorem State.configurePort_frame : s.configurePort p c =
    { s with portTable := s.portTable.set p c, records := (s.configurePort p c).records, links := (s.configurePort p c).links } := rfl

theorem State.config_configurePort : (s.configurePort p c).config q = if q = p then c else s.config q := by
  have replaced : (s.configurePort p c).config q = (s.portTable.set p c)[q] := rfl
  rw [replaced, State.config_set]

theorem State.record_configurePort :
    (s.configurePort p c).record q = if q = p then { s.record p with committed := c.rest } else s.record q := by
  unfold State.configurePort
  rw [State.dropFormerSets_record, State.record_setRecord]
  rfl

theorem State.link_configurePort :
    (s.configurePort p c).link q =
      { s.link q with notices := if s.supervisory q = true ∧ (s.configurePort p c).supervisory q = false then [] else (s.link q).notices } := by
  have standing : (s.configurePort p c).supervisory q = ({ s with portTable := s.portTable.set p c }.setRecord p { s.record p with committed := c.rest }).supervisory q :=
    State.supervisory_congr rfl rfl q
  rw [standing, State.configurePort, State.link_dropFormerSets]
  simp only [Bool.and_eq_true, Bool.not_eq_true']
  split <;> rfl

end Configured

/-- Settles O16: the entry and the committed value that follows it are written, and the ACK is queued once the sets of former supervisory ports
are emptied. -/
theorem setPortReplacesThePortEntry : Obligations.SetPortReplacesThePortEntry := by
  intro s p f standby standing
  have taken : exec (.setPort p f) s = .next ((s.acceptFrame p).takeSetPort p f).settle := by
    rw [exec_configuring (r := .setPort f) rfl rfl standby standing, State.take, if_pos (by rwa [State.acceptFrame_mode])]
  refine ⟨fun fits => ?_, fun unfit => ⟨_, ?_, s.answers_nak p 0x24#8 .range⟩⟩
  · obtain ⟨target, c, port, found, role, rated, fallback, lead, ratedCharge, reserve⟩ := portConfigOf_of_inRange fits
    rw [State.takeSetPort, found] at taken
    have config (q : Port) : (((s.acceptFrame p).configurePort target c).ack p 0x24#8).config q = if q = target then c else s.config q := by
      rw [State.ack_config, State.config_configurePort, State.acceptFrame_config]
    have configured := config target
    rw [if_pos rfl] at configured
    refine ⟨((s.acceptFrame p).configurePort target c).ack p 0x24#8, target, port, taken, ?_, ?_, ?_, ?_, ?_, ?_, ?_,
      fun q other => ?_, fun q => ?_, fun q => ?_⟩
    · obtain ⟨r, l, eq⟩ := s.acceptFrame_eq p
      rw [eq, State.ack_frame, State.configurePort_frame]
    · rw [configured, role]
    · rw [configured, rated]
    · rw [configured, fallback]
    · rw [configured, lead]
    · rw [configured, ratedCharge]
    · rw [configured, reserve]
    · rw [config, if_neg other]
    · rw [← State.config_rest, configured, State.ack_record, State.record_configurePort, State.record_acceptFrame, State.record_acceptFrame]
      by_cases named : q = target
      · subst named
        simp only [if_pos]
        split
        case isTrue same => rw [same]
        case isFalse => rfl
      · simp only [if_neg named]
        split
        case isTrue same => rw [same]
        case isFalse => rfl
    · have linked := (s.answers_ack p 0x24#8).links q
      rw [State.notified_nil] at linked
      rw [← linked, State.link_ack, State.link_ack, State.link_configurePort, State.ack_supervisory, State.acceptFrame_supervisory]
      split
      case isTrue same => rw [same, LinkPort.enqueue_notices, LinkPort.notices_enqueue]
      case isFalse => rw [State.link_configurePort, State.acceptFrame_supervisory]
  · rw [taken, State.takeSetPort, portConfigOf_of_not_inRange unfit]

/-! ### PUSH -/

theorem pushedEntry_eq (p : Port) (b : ProfileBlock) (delay : Byte) (expiry : BitVec 16) : pushedEntry p b delay expiry =
    { profile :=
        { lup := min b.lup.toNat 1000000, ldn := min b.ldn.toNat 1000000, sup := max 1 (min b.sup.toNat 1000000)
          sdn := max 1 (min b.sdn.toNat 1000000), window := max 10 (min b.window.toNat 600)
          blend := max 1 (min b.blend.toNat 256), anticipate := b.flags.getLsbD 0, restore := b.flags.getLsbD 1
          reseed := b.flags.getLsbD 2, bound := b.flags.getLsbD 3, restoreRate := min b.restoreRate.toNat 1000000
          soeTarget := min b.soeTarget.toNat 100 }
      port := p, delay := delay.toNat, expiry := expiry.toNat, state := .pending, frames := delay.toNat } := by
  have bounded {a c : Int} (h : a ≤ c) (n : Nat) := clamp_eq h (n : Int)
  have positive (n : Nat) : max 0 (min (n : Int) 1000000) = min (n : Int) 1000000 := by omega
  have percent (n : Nat) : max 0 (min (n : Int) 100) = min (n : Int) 100 := by omega
  have window (n : Nat) : (max 10 (min (n : Int) 600)).toNat = max 10 (min n 600) := by omega
  simp only [pushedEntry, Profile.clamped, profileOf, powerLimit, bounded (show (0 : Int) ≤ 1000000 by decide), bounded (show (1 : Int) ≤ 1000000 by decide),
    bounded (show (10 : Int) ≤ 600 by decide), bounded (show (1 : Int) ≤ 256 by decide), bounded (show (0 : Int) ≤ 100 by decide), positive, percent, window]

/-- A PENDING entry put last leaves the active position. -/
theorem activePosition_append_pending {e : Entry} (pending : e.state = .pending) (es : List Entry) : activePosition (es ++ [e]) = activePosition es := by
  induction es with
  | nil => simp [activePosition, pending]
  | cons x es ih => rw [List.cons_append, activePosition, activePosition, ih]

/-- Settles O18: the list has room for the clamped entry, or the request gets its NAK. -/
theorem pushAppendsAClampedPendingEntry : Obligations.PushAppendsAClampedPendingEntry := by
  intro s p b delay expiry running supervisor
  rw [← pushedEntry_eq]
  intro entry
  have mode := (Mode.running_iff _).1 running
  have taken : exec (.push p b delay expiry) s = .next ((s.acceptFrame p).takePush p b delay expiry).settle := by
    rw [exec_supervised (r := .push b delay expiry) rfl rfl mode.1 (.inl supervisor), State.take, if_pos (by rwa [State.acceptFrame_mode])]
  refine ⟨fun room => ?_, fun full => ⟨_, ?_, s.answers_nak p 0x20#8 .listFull⟩⟩
  · have answered := ((s.answers_over p { s with entries := s.entries ++ [entry] }).enqueue (.ack 0x20#8 (!(profileOf b).inRange) false)).raise
      (.listChange .pushed (some p) (s.entries.length + 1) (activePosition s.entries))
    refine ⟨_, _, ?_, ?_, answered⟩
    · rw [← profileOf_inRange_iff, Bool.not_eq_false']
    · rw [taken, State.takePush, if_neg (by rw [State.acceptFrame_entries]; exact not_le.2 room), State.acceptFrame_entries]
      simp only [State.listChange, List.length_append, List.length_singleton, activePosition_append_pending (show (pushedEntry p b delay expiry).state = .pending from rfl)]
      rfl
  · rw [taken, State.takePush, if_pos (by rwa [State.acceptFrame_entries])]

/-! ### DROP -/

theorem dropNewest_of_none {p : Port} {es : List Entry} (h : ∀ e ∈ es, e.port ≠ p) : dropNewest p es = none := by
  induction es with
  | nil => rfl
  | cons e es ih => rw [dropNewest, ih fun x mem => h x (List.mem_cons_of_mem e mem), if_neg (h e List.mem_cons_self)]

theorem dropNewest_of_newest {p : Port} {older newer : List Entry} {e : Entry} (own : e.port = p) (h : ∀ x ∈ newer, x.port ≠ p) :
    dropNewest p (older ++ e :: newer) = some (older ++ newer) := by
  induction older with
  | nil => rw [List.nil_append, dropNewest, dropNewest_of_none h, if_pos own]; rfl
  | cons x older ih => rw [List.cons_append, dropNewest, ih]; rfl

/-- Settles O19: the list is searched from its newest entry. -/
theorem dropRemovesTheSendersNewestEntry : Obligations.DropRemovesTheSendersNewestEntry := by
  intro s p mode standing
  have taken : exec (.drop p) s = .next ((s.acceptFrame p).takeDrop p).settle := exec_supervised (r := .drop) rfl rfl mode standing
  refine ⟨fun older newer e held own newest => ?_, fun none => ⟨_, ?_, s.answers_nak p 0x21#8 .notFound⟩⟩
  · have answered := ((s.answers_over p { s with entries := older ++ newer }).ack 0x21#8).raise
      (.listChange .dropped (some p) (older ++ newer).length (activePosition (older ++ newer)))
    refine ⟨_, ?_, answered⟩
    rw [taken, State.takeDrop, State.acceptFrame_entries, held, dropNewest_of_newest own newest]
    rfl
  · rw [taken, State.takeDrop, State.acceptFrame_entries, dropNewest_of_none none]

end Sys2Proof.Machine
end

section
/-! QUERY and CLEAR (O20, O21). -/

namespace Sys2Proof.Machine

/-! ### QUERY -/

/-- An answer settles every part of the state it leaves. -/
theorem State.Answers.unique {s base w w' : State} {p : Port} {ms : List Message} {ns : List Notice} (h : s.Answers base w p ms ns)
    (h' : s.Answers base w' p ms ns) : w = w' := by
  have links : w.links = w'.links := links_ext fun q => (h.links q).trans (h'.links q).symm
  have records : w.records = w'.records := records_ext fun q => by
    by_cases same : q = p
    · subst same
      exact h.heard.trans h'.heard.symm
    · exact (h.others q same).trans (h'.others q same).symm
  rw [h.rest, h'.rest, links, records]

theorem activePosition_le (es : List Entry) : activePosition es ≤ es.length := by
  induction es with
  | nil => exact le_refl _
  | cons e es ih =>
    rw [activePosition, List.length_cons]
    split
    · split <;> omega
    · omega

/-- The newest ACTIVE entry stands at the active position (R42). -/
theorem activeEntry_eq (es : List Entry) : activeEntry es = if activePosition es = 0 then none else es[activePosition es - 1]? := by
  induction es with
  | nil => rfl
  | cons e es ih =>
    have newest : activeEntry (e :: es) = (activeEntry es).or (if e.state = .active then some e else none) := by
      unfold activeEntry
      by_cases active : e.state = .active
      · rw [List.filter_cons_of_pos (by simpa using active), List.getLast?_cons, if_pos active]
        cases (es.filter fun e => e.state == .active).getLast? <;> rfl
      · rw [List.filter_cons_of_neg (by simpa using active), if_neg active, Option.or_none]
    rw [newest, ih, activePosition]
    cases position : activePosition es with
    | zero => by_cases active : e.state = .active <;> simp [active]
    | succ n =>
      have held : n < es.length := by
        have := activePosition_le es
        omega
      simp [List.getElem?_eq_getElem held]

theorem State.netCommitment_eq_sum (s : State) :
    s.netCommitment = ∑ q : Port, if (s.config q).role = .cluster ∨ (s.config q).role = .storage then (s.record q).committed else 0 := by
  rw [State.netCommitment, portSum_eq_sum]
  refine Finset.sum_congr rfl fun q _ => ?_
  rw [PortConfig.netShare]
  cases (s.config q).role <;> simp [Role.steerable]

theorem State.exportCommitment_eq_sum (s : State) :
    s.exportCommitment = ∑ q : Port,
      if (s.config q).role = .cluster then max (s.record q).committed (s.config q).fallback
      else if (s.config q).role = .storage then max (s.record q).committed 0 else 0 := by
  rw [State.exportCommitment, portSum_eq_sum]
  refine Finset.sum_congr rfl fun q _ => ?_
  rw [PortConfig.exportShare]
  cases (s.config q).role <;> simp

theorem State.committed_acceptFrame (s : State) (p q : Port) : ((s.acceptFrame p).record q).committed = (s.record q).committed := by
  rw [State.record_acceptFrame]
  split
  case isTrue same => rw [same]
  case isFalse => rfl

/-- The data of a STATUS reply to an accepted frame (R25, R37, R53, R110, R145). -/
theorem State.status_acceptFrame (s : State) (p : Port) : (s.acceptFrame p).status =
    { mode := s.mode, cause := s.restartCause, check := s.checkResult, frame := s.frameNumber, reference := s.reference
      target := s.target, storageNet := s.storageNet
      net := ∑ q : Port, if (s.config q).role = .cluster ∨ (s.config q).role = .storage then (s.record q).committed else 0
      exported := ∑ q : Port,
        if (s.config q).role = .cluster then max (s.record q).committed (s.config q).fallback
        else if (s.config q).role = .storage then max (s.record q).committed 0 else 0
      activePosition := activePosition s.entries
      activePort := if activePosition s.entries = 0 then none else (s.entries[activePosition s.entries - 1]?).map Entry.port
      latched := s.complianceLatched } := by
  rw [State.status, State.netCommitment_eq_sum, State.exportCommitment_eq_sum, activeEntry_eq]
  simp only [State.acceptFrame_mode, State.acceptFrame_restartCause, State.acceptFrame_checkResult, State.acceptFrame_frameNumber,
    State.acceptFrame_reference, State.acceptFrame_target, State.acceptFrame_storageNet, State.acceptFrame_config, State.committed_acceptFrame,
    State.acceptFrame_entries, State.acceptFrame_complianceLatched, apply_ite (Option.map Entry.port), Option.map_none]

theorem State.takeQuery_of_some {s : State} {target : Byte} {index : BitVec 16} {data : ReplyData} (p : Port)
    (found : s.queryData target index = some data) : s.takeQuery p target index = s.enqueue p (.reply index data) := by
  rw [State.takeQuery, found]

theorem State.takeQuery_of_none {s : State} {target : Byte} {index : BitVec 16} (p : Port) (none : s.queryData target index = none) :
    s.takeQuery p target index = s.nak p 0x22#8 .range := by
  rw [State.takeQuery, none]

theorem exec_query {c : Instr} {s : State} {p : Port} {target : Byte} {index : BitVec 16} {count : Byte}
    (asked : c.request = some (p, .query target index count)) (mode : s.mode ≠ .loading) (standing : s.Supervises p) :
    exec c s = .next ((s.acceptFrame p).takeQuery p target index).settle :=
  exec_supervised asked rfl mode standing

/-- QUERY STATUS is taken in LOADING as well, from any port (R137). -/
theorem exec_queryStatus {s : State} {p : Port} (index : BitVec 16) (count : Byte) (heard : s.mode = .loading ∨ s.Supervises p) :
    exec (.queryStatus p index count) s = .next ((s.acceptFrame p).takeQuery p 0#8 index).settle := by
  by_cases loading : s.mode = .loading
  · rw [exec_of_request (r := .query 0#8 index count) rfl, State.receive, State.judge_of_loading rfl (by rwa [State.acceptFrame_mode])]
    rfl
  · exact exec_query rfl loading (heard.resolve_left loading)

theorem portOf_eq_none {n : Nat} (h : 12 ≤ n) : portOf n = none := dif_neg (by omega)

theorem channelOf_val (c : ChannelIndex) : channelOf c.val = some c := dif_pos c.isLt

theorem channelOf_eq_none {n : Nat} (h : 16 ≤ n) : channelOf n = none := dif_neg (by omega)

/-- Settles O20: an accepted frame leaves everything a target's data speaks of as it stands, and the data of an index out of range is none. -/
theorem queriesReplyWithTheStateAsItStands : Obligations.QueriesReplyWithTheStateAsItStands := by
  intro s p index count heard isHeard i replies refused active counters
  obtain rfl : heard = s.acceptFrame p := isHeard.unique (s.answers_acceptFrame p)
  have answers {c : Instr} {target : Byte} {data : ReplyData} (taken : exec c s = .next ((s.acceptFrame p).takeQuery p target index).settle)
      (found : (s.acceptFrame p).queryData target index = some data) : replies c data :=
    ⟨_, by rw [taken, State.takeQuery_of_some p found], (s.answers_acceptFrame p).enqueue (.reply index data)⟩
  have refuses {c : Instr} {target : Byte} (taken : exec c s = .next ((s.acceptFrame p).takeQuery p target index).settle)
      (none : (s.acceptFrame p).queryData target index = none) : refused c :=
    ⟨_, by rw [taken, State.takeQuery_of_none p none], s.answers_nak p 0x22#8 .range⟩
  have counted (q : Port) : (s.acceptFrame p).portCounters q = counters q := by
    simp only [State.portCounters, counters, State.record_acceptFrame]
    split
    case isTrue same => rw [same]
    case isFalse => rfl
  have list : (s.acceptFrame p).entries = s.entries := State.acceptFrame_entries s p
  refine ⟨fun asked => answers (exec_queryStatus index count asked) ?_, fun mode standing =>
    ⟨fun q at_ => answers (exec_query rfl mode standing) ?_, fun beyond => refuses (exec_query rfl mode standing) ?_,
      fun within => answers (exec_query rfl mode standing) ?_, fun beyond => refuses (exec_query rfl mode standing) ?_,
      fun c at_ => answers (exec_query rfl mode standing) ?_, fun beyond => refuses (exec_query rfl mode standing) ?_,
      fun zero => answers (exec_query rfl mode standing) ?_, fun one four e held => answers (exec_query rfl mode standing) ?_,
      fun one four beyond => answers (exec_query rfl mode standing) ?_, fun beyond => refuses (exec_query rfl mode standing) ?_,
      fun zero => answers (exec_query rfl mode standing) ?_, fun one => answers (exec_query rfl mode standing) ?_,
      fun two => answers (exec_query rfl mode standing) ?_, fun beyond => refuses (exec_query rfl mode standing) ?_⟩⟩
  · exact congrArg (fun d => some (ReplyData.status d)) (s.status_acceptFrame p)
  all_goals
    unfold State.queryData
    simp only [BitVec.toNat_ofNat, Nat.reducePow, Nat.reduceMod]
  · rw [portOf_eq_some_iff.2 at_, Option.map_some, State.acceptFrame_config]
  · rw [portOf_eq_none beyond]; rfl
  · rw [if_pos within, State.recordAt, State.recordAt, State.acceptFrame_ring]
  · rw [if_neg (by omega)]
  · rw [show index.toNat = c.val from at_, channelOf_val, Option.map_some, State.acceptFrame_channel]
  · rw [channelOf_eq_none beyond]; rfl
  · rw [if_pos (by omega), list, State.listSlot, if_pos zero, State.acceptFrame_defaultProfile]
  · rw [if_pos (by omega), list, State.listSlot, if_neg (by omega), entryAt, if_neg (by omega), list, held]
  · rw [if_pos (by omega), list, State.listSlot, if_neg (by omega), entryAt, if_neg (by omega), list, List.getElem?_eq_none (by omega)]
  · rw [if_neg (by omega)]
  · rw [if_pos (by omega), show index.toNat = 0 from zero, State.counters]
    simp
  · rw [if_pos (by omega), show index.toNat = 1 from one, State.counters, show (List.finRange 12).take 6 = [0, 1, 2, 3, 4, 5] from by decide]
    simp [counted]
  · rw [if_pos (by omega), show index.toNat = 2 from two, State.counters, show (List.finRange 12).drop 6 = [6, 7, 8, 9, 10, 11] from by decide]
    · simp [counted]
    all_goals decide
  · rw [if_neg (by omega)]

end Sys2Proof.Machine
end

section
/-! CLEAR (O21). -/

namespace Sys2Proof.Machine

theorem LinkPort.enqueue_zeroed (l : LinkPort) (m : Message) :
    ({ l with accepted := 0, rejected := 0 } : LinkPort).enqueue m = { l.enqueue m with accepted := 0, rejected := 0 } := by
  unfold LinkPort.enqueue
  split <;> rfl

/-! ### The parts of a state with every counter at 0 (R163) -/

theorem State.channel_zeroCounters (s : State) (c : ChannelIndex) : s.zeroCounters.channel c = { s.channel c with missing := 0 } := by
  unfold State.zeroCounters
  rw [State.mapLinks_channel, State.mapRecords_channel, State.channel_mapChannels]
  rfl

theorem State.record_zeroCounters (s : State) (q : Port) :
    s.zeroCounters.record q = { s.record q with yieldsRefused := 0, recallTimeouts := 0 } := by
  unfold State.zeroCounters
  rw [State.mapLinks_record, State.record_mapRecords, State.mapChannels_record]
  rfl

theorem State.link_zeroCounters (s : State) (q : Port) : s.zeroCounters.link q = { s.link q with accepted := 0, rejected := 0 } := by
  unfold State.zeroCounters
  rw [State.link_mapLinks, State.mapRecords_link, State.mapChannels_link]
  rfl

/-- A record once a frame of port `p` is accepted (R114). -/
theorem State.record_heard (s : State) (p q : Port) :
    (s.acceptFrame p).record q = { s.record q with silence := if q = p then 0 else (s.record q).silence } := by
  rw [State.record_acceptFrame]
  split
  case isTrue same => rw [same]
  case isFalse => rfl

/-- A link once a frame of port `p` is accepted and an answer is queued. -/
theorem State.linkAfter_answer (s : State) (p q : Port) (m : Message) :
    s.linkAfter p (only p [m]) q = if q = p then ((s.acceptFrame p).link p).enqueue m else (s.acceptFrame p).link q := by
  rw [State.linkAfter, only]
  split
  case isTrue same => rw [same, State.link_acceptFrame, if_pos rfl]; rfl
  case isFalse other => rw [State.link_acceptFrame, if_neg other]; rfl

/-- The alarms a CLEAR ALARMS clears (R71). -/
theorem State.channel_takeClearAlarms {s : State} {p : Port} {channel : Byte} (named : channel.toNat ≤ 15 ∨ channel = 255#8) (c : ChannelIndex) :
    (s.takeClearAlarms p channel).channel c =
      if channel = 255#8 ∨ channel.toNat = c.val then { s.channel c with lowAlarm := false, highAlarm := false } else s.channel c := by
  unfold State.takeClearAlarms
  by_cases all : channel = 255#8
  · rw [if_pos all, if_pos (.inl all), State.ack_channel, State.channel_mapChannels]
    rfl
  · have below : channel.toNat < 16 := by
      have := named.resolve_right all
      omega
    rw [if_neg all, channelOf, dif_pos below]
    simp only [State.ack_channel, State.channel_setChannel, all, false_or]
    by_cases same : c = ⟨channel.toNat, below⟩
    · rw [if_pos same, if_pos (by rw [same]), same]
      rfl
    · rw [if_neg same, if_neg fun eq => same (Fin.ext eq.symm)]

theorem State.takeClearAlarms_answers {s : State} {p : Port} {channel : Byte} (named : channel.toNat ≤ 15 ∨ channel = 255#8) :
    s.Answers { s with channels := ((s.acceptFrame p).takeClearAlarms p channel).channels } ((s.acceptFrame p).takeClearAlarms p channel) p
      [.ack 0x28#8 false false] [] := by
  unfold State.takeClearAlarms
  by_cases all : channel = 255#8
  · rw [if_pos all]
    exact (s.answers_over p { s with channels := ((s.acceptFrame p).mapChannels fun _ c => c.alarmsCleared).channels }).ack 0x28#8
  · have below : channel.toNat < 16 := by
      have := named.resolve_right all
      omega
    rw [if_neg all, channelOf, dif_pos below]
    exact (s.answers_over p { s with channels := ((s.acceptFrame p).setChannel ⟨channel.toNat, below⟩ _).channels }).ack 0x28#8

/-- Settles O21: each selector's effect on an accepted frame, and the ACK after it. -/
theorem clearsActOnWhatTheyName : Obligations.ClearsActOnWhatTheyName := by
  intro s p channel mode standing
  refine ⟨?counters, fun named => ?alarms, fun above other => ?refused, ?notices⟩
  case counters =>
    refine ⟨(s.acceptFrame p).zeroCounters.ack p 0x28#8, exec_supervised (r := .clear 0#8 channel) rfl rfl mode standing, ?_, fun c => ?_, fun q => ?_, fun q => ?_⟩
    · obtain ⟨r, l, eq⟩ := s.acceptFrame_eq p
      obtain ⟨l', zeroed⟩ := (s.acceptFrame p).zeroCounters_eq
      rw [State.ack_frame, zeroed, eq]
    · rw [State.ack_channel, State.channel_zeroCounters, State.acceptFrame_channel]
    · rw [State.ack_record, State.record_zeroCounters, State.record_heard]
    · rw [State.link_ack, State.link_zeroCounters, State.link_zeroCounters, State.linkAfter_answer]
      split
      · exact LinkPort.enqueue_zeroed _ _
      · rfl
  case alarms =>
    refine ⟨_, exec_supervised (r := .clear 1#8 channel) rfl rfl mode standing, State.takeClearAlarms_answers named, fun c => ?_⟩
    exact (State.channel_takeClearAlarms named c).trans (by rw [State.acceptFrame_channel])
  case refused =>
    refine ⟨_, ?_, s.answers_nak p 0x28#8 .range⟩
    rw [exec_supervised (r := .clear 1#8 channel) rfl rfl mode standing]
    have none : (s.acceptFrame p).takeClearAlarms p channel = (s.acceptFrame p).nak p 0x28#8 .range := by
      rw [State.takeClearAlarms, if_neg other, channelOf_eq_none above]
    exact congrArg (fun w => Host.Outcome.next (State.settle w)) none
  case notices =>
    refine ⟨(s.acceptFrame p).takeClearNotices p, exec_supervised (r := .clear 2#8 channel) rfl rfl mode standing, ?_, fun q => ?_, fun q => ?_⟩
    · obtain ⟨r, l, eq⟩ := s.acceptFrame_eq p
      rw [eq]
      rfl
    · rw [State.takeClearNotices, State.ack_record, State.setLink_record, State.record_heard]
    · rw [State.takeClearNotices, State.link_ack, State.link_setLink, State.link_setLink, State.linkAfter_answer, if_pos rfl, if_pos rfl]
      split
      · exact LinkPort.enqueue_notices _ _ _
      case isFalse other => rw [State.link_acceptFrame, if_neg other]

end Sys2Proof.Machine
end

section
/-! Mode changes: MODE_RUN, MODE_STANDBY and the end of the image read (O22, O23, O8). -/

namespace Sys2Proof.Machine

/-! ### The links at a change of mode -/

theorem State.supervisory_iff_of_not_standby {s : State} (mode : s.mode ≠ .standby) (q : Port) : s.supervisory q = true ↔ (s.config q).role = .supervisor := by
  rw [State.supervises_iff, State.Supervises]
  exact or_iff_left fun standby => mode standby.1

theorem State.supervisory_dropFormerSets (s before : State) (q : Port) : (s.dropFormerSets before).supervisory q = s.supervisory q :=
  State.supervisory_congr rfl rfl q

theorem State.link_changeMode (s : State) (m : Mode) (q : Port) : (s.changeMode m).link q =
    if { s with mode := m }.supervisory q = true then (s.link q).raise (.modeChange s.mode m)
    else if s.supervisory q = true then { s.link q with notices := [] } else s.link q := by
  rw [State.changeMode, State.link_raise, State.supervisory_dropFormerSets, State.link_dropFormerSets]
  by_cases after : { s with mode := m }.supervisory q = true
  · rw [if_pos after, if_pos after, if_neg (by rw [after]; simp)]
    rfl
  · rw [if_neg after, if_neg after]
    rw [Bool.not_eq_true] at after
    simp only [after, Bool.not_false, Bool.and_true]
    rfl

theorem State.link_enterPriming (s : State) (q : Port) : s.enterPriming.link q =
    if (s.config q).role = .supervisor then (s.link q).raise (.modeChange s.mode .priming)
    else if s.openAccess = true then { s.link q with notices := [] } else s.link q := by
  have entering : ∃ t : State, s.enterPriming = t.changeMode .priming ∧ t.mode = s.mode ∧ t.portTable = s.portTable ∧ t.links = s.links :=
    ⟨_, rfl, rfl, rfl, rfl⟩
  obtain ⟨t, entered, mode, table, links⟩ := entering
  have link : t.link q = s.link q := by rw [State.link, links]; rfl
  have config : t.config q = s.config q := by rw [State.config, table]; rfl
  have standing : t.supervisory q = s.supervisory q := State.supervisory_congr mode table q
  have priming : { t with mode := .priming }.supervisory q = true ↔ (s.config q).role = .supervisor := by
    rw [State.supervisory_iff_of_not_standby (by nofun), ← config]
    rfl
  rw [entered, State.link_changeMode, link, mode, standing]
  simp only [priming]
  by_cases role : (s.config q).role = .supervisor
  · rw [if_pos role, if_pos role]
  · rw [if_neg role, if_neg role, State.supervisory]
    simp only [beq_eq_false_iff_ne.2 role, Bool.false_or]

theorem State.link_releasePort (s : State) (p q : Port) : (s.releasePort p).link q =
    if q = p ∧ (s.record p).participation ≠ .absent then (s.link q).enqueue (.limit .release (s.config p).rest s.frameNumber) else s.link q := by
  unfold State.releasePort
  by_cases absent : (s.record p).participation = .absent
  · rw [if_pos absent, if_neg fun h => h.2 absent]
  · rw [if_neg absent, State.link_enqueue]
    by_cases same : q = p
    · rw [if_pos same, if_pos ⟨same, absent⟩, same]
    · rw [if_neg same, if_neg fun h => same h.1]

theorem State.link_foldl_releasePort {ps : List Port} (once : ps.Nodup) (s : State) (q : Port) : (ps.foldl State.releasePort s).link q =
    if q ∈ ps ∧ (s.record q).participation ≠ .absent then (s.link q).enqueue (.limit .release (s.config q).rest s.frameNumber) else s.link q := by
  induction ps generalizing s with
  | nil => simp
  | cons p ps ih =>
    obtain ⟨fresh, rest⟩ := List.nodup_cons.1 once
    have frame := State.frame_releasePort s p
    have record : (s.releasePort p).record q = s.record q := State.record_foldl_releasePort [p] s q
    rw [List.foldl_cons, ih rest, record, State.config_of_frame frame, State.frameNumber_of_frame frame, State.link_releasePort]
    by_cases same : q = p
    · subst same
      simp [fresh]
    · simp [same]

/-- The state at STANDBY entry once the RELEASEs are queued in `u`: the records ABSENT, the timers stopped, the list empty (R127). -/
def State.stoppedAfter (s u : State) : State :=
  { u.mapRecords fun p r => r.left (s.config p) with frameTimer := .stopped, scanTimer := .stopped, scan := none, entries := [] }

theorem State.enterStandby_eq_stopped (s : State) :
    s.enterStandby =
      (if s.entries.isEmpty then s.stoppedAfter ((List.finRange 12).foldl State.releasePort s)
        else (s.stoppedAfter ((List.finRange 12).foldl State.releasePort s)).listChange .discarded none).changeMode .standby := by
  rw [State.enterStandby]
  generalize (List.finRange 12).foldl State.releasePort s = u
  rfl

/-- What STANDBY entry does to a link: RELEASE to a port that is not ABSENT, LIST_CHANGE where entries were held, and MODE_CHANGE. -/
theorem State.link_enterStandby (s : State) (q : Port) : s.enterStandby.link q =
    let released := if (s.record q).participation = .absent then s.link q else (s.link q).enqueue (.limit .release (s.config q).rest s.frameNumber)
    let discarded := if s.entries = [] then released else s.notified [.listChange .discarded none 0 0] q released
    if { s with mode := .standby }.supervisory q = true then discarded.raise (.modeChange s.mode .standby)
    else if s.supervisory q = true then { discarded with notices := [] } else discarded := by
  have frame := State.frame_foldl State.frame_releasePort (List.finRange 12) s
  have released := State.link_foldl_releasePort (List.nodup_finRange 12) s q
  rw [State.enterStandby_eq_stopped]
  generalize (List.finRange 12).foldl State.releasePort s = u at frame released ⊢
  have listed : (s.stoppedAfter u).listChange .discarded none = (s.stoppedAfter u).raise (.listChange .discarded none 0 0) := rfl
  have mode : (s.stoppedAfter u).mode = u.mode := by simp only [State.stoppedAfter, State.mapRecords]
  have table : (s.stoppedAfter u).portTable = u.portTable := by simp only [State.stoppedAfter, State.mapRecords]
  have links : (s.stoppedAfter u).link q = u.link q := by simp only [State.stoppedAfter, State.mapRecords, State.link]
  rw [listed]
  generalize s.stoppedAfter u = t at mode table links ⊢
  rw [State.mode_of_frame frame] at mode
  rw [State.portTable_of_frame frame] at table
  have link : t.link q = if (s.record q).participation = .absent then s.link q else (s.link q).enqueue (.limit .release (s.config q).rest s.frameNumber) := by
    exact links.trans (released.trans (by simp only [List.mem_finRange, true_and, ne_eq, ite_not]))
  have standing : t.supervisory q = s.supervisory q := State.supervisory_congr mode table q
  have standby : { t with mode := .standby }.supervisory q = { s with mode := .standby }.supervisory q :=
    State.supervisory_congr (s := { s with mode := .standby }) (t := { t with mode := .standby }) rfl table q
  simp only [← link, List.isEmpty_iff]
  by_cases held : s.entries = []
  · simp only [if_pos held, State.link_changeMode, standing, standby, mode]
  · have raised : { t.raise (.listChange .discarded none 0 0) with mode := .standby }.supervisory q = { s with mode := .standby }.supervisory q :=
      State.supervisory_congr (s := { s with mode := .standby }) (t := { t.raise (.listChange .discarded none 0 0) with mode := .standby }) rfl table q
    simp only [if_neg held, State.link_changeMode, raised, State.raise_supervisory, State.raise_mode, State.link_raise, standing, mode]
    rfl

/-- An accepted frame, and its answer, over an effect that is no matter of links, records or standing. -/
theorem State.Answers.parts {s base w : State} {p : Port} {ms : List Message} (h : s.Answers base w p ms []) (records : base.records = s.records) :
    (∀ q, w.link q = s.linkAfter p (only p ms) q) ∧
    ∀ q, w.record q = { s.record q with silence := if q = p then 0 else (s.record q).silence } := by
  have same (q : Port) : base.record q = s.record q := by rw [State.record, records]; rfl
  refine ⟨fun q => by rw [h.links, State.notified_nil], fun q => ?_⟩
  by_cases own : q = p
  · subst own
    rw [h.heard, same, if_pos rfl]
  · rw [h.others q own, same, if_neg own]

/-! ### MODE_RUN -/

theorem State.runChecked_of_passed {s : State} {p : Port} (passed : s.inForce.crossCheck = .passed) :
    s.runChecked p = ({ s with checkResult := .passed }.ack p 0x27#8).enterPriming := by
  unfold State.runChecked
  generalize s.inForce.crossCheck = result at *
  subst passed
  rfl

theorem State.runChecked_of_failed {s : State} {p : Port} (failed : s.inForce.crossCheck ≠ .passed) :
    s.runChecked p = { s with checkResult := s.inForce.crossCheck }.nak p 0x27#8 .config := by
  unfold State.runChecked
  generalize s.inForce.crossCheck = result at *
  exact if_neg failed

/-- Settles O22: a running mode only acknowledges; in STANDBY the cross-checks decide, and PRIMING entry follows the ACK. -/
theorem modeRunEntersPrimingWhereTheChecksPass : Obligations.ModeRunEntersPrimingWhereTheChecksPass := by
  intro s p standing
  have taken (mode : s.mode ≠ .loading) : exec (.modeRun p) s = .next ((s.acceptFrame p).takeModeRun p).settle :=
    exec_supervised (r := .mode 1#8) rfl rfl mode standing
  refine ⟨fun running => ⟨_, ?_, s.answers_ack p 0x27#8⟩, fun standby failed =>
    ⟨{ s with checkResult := s.inForce.crossCheck, links := (s.acceptFrame p).links, records := (s.acceptFrame p).records }.nak p 0x27#8 .config, ?_, ?_⟩,
    fun standby passed => ?_⟩
  · have mode := (Mode.running_iff _).1 running
    rw [taken mode.1, State.takeModeRun, if_neg (by rw [State.acceptFrame_mode]; exact mode.2)]
  · rw [taken (by rw [standby]; nofun), State.takeModeRun, if_pos (by rwa [State.acceptFrame_mode]),
      State.runChecked_of_failed (by rwa [s.inForce_acceptFrame p]), s.inForce_acceptFrame p]
    generalize s.inForce.crossCheck = result
    rfl
  · generalize s.inForce.crossCheck = result
    exact (s.answers_over p { s with checkResult := result }).nak 0x27#8 .config
  · have answered := (s.answers_over p { s with checkResult := .passed }).ack 0x27#8
    have rest := answered.rest
    obtain ⟨links, records⟩ := answered.parts rfl
    have entered : (s.acceptFrame p).takeModeRun p =
        ({ s with checkResult := .passed, links := (s.acceptFrame p).links, records := (s.acceptFrame p).records }.ack p 0x27#8).enterPriming := by
      have mode : (s.acceptFrame p).mode = .standby := (State.acceptFrame_mode s p).trans standby
      have checks : (s.acceptFrame p).inForce.crossCheck = .passed := by rw [s.inForce_acceptFrame p]; exact passed
      rw [State.takeModeRun, if_pos mode, State.runChecked_of_passed checks]
      exact congrArg (fun a : State => ({ a with checkResult := .passed }.ack p 0x27#8).enterPriming) (s.answers_acceptFrame p).rest
    generalize { s with checkResult := .passed, links := (s.acceptFrame p).links, records := (s.acceptFrame p).records }.ack p 0x27#8 = t
      at rest links records entered
    refine ⟨t.enterPriming, by rw [taken (by rw [standby]; nofun), entered], ?_, fun c => ?_, fun q => ?_, fun q => ?_⟩
    · obtain ⟨r, l, eq⟩ := t.enterPriming_eq
      rw [eq, rest]
      rfl
    · have channel : t.channel c = s.channel c := by rw [rest]; rfl
      rw [State.channel_enterPriming, channel, Channel.restarted]
    · rw [State.record_enterPriming, records]
    · have mode : t.mode = .standby := by rw [rest]; exact standby
      have config : t.config q = s.config q := by rw [rest]; rfl
      have access : t.openAccess = s.openAccess := by rw [rest]; rfl
      rw [State.link_enterPriming, config, mode, links, access]
      rfl

/-! ### MODE_STANDBY -/

/-- Settles O23: the ACK, and in a running mode STANDBY entry after it. -/
theorem modeStandbyReleasesEveryPort : Obligations.ModeStandbyReleasesEveryPort := by
  intro s p standing
  have taken (mode : s.mode ≠ .loading) : exec (.modeStandby p) s = .next ((s.acceptFrame p).takeModeStandby p).settle :=
    exec_supervised (r := .mode 0#8) rfl rfl mode standing
  refine ⟨fun standby => ⟨_, ?_, s.answers_ack p 0x27#8⟩, fun running => ?_⟩
  · rw [taken (by rw [standby]; nofun), State.takeModeStandby, State.acceptFrame_mode, standby]
    rfl
  · have mode := (Mode.running_iff _).1 running
    have supervisor : (s.config p).role = .supervisor := standing.resolve_right fun standby => mode.2 standby.1
    have answered := s.answers_ack p 0x27#8
    have rest := answered.rest
    obtain ⟨links, records⟩ := answered.parts rfl
    have entered : (s.acceptFrame p).takeModeStandby p = ((s.acceptFrame p).ack p 0x27#8).enterStandby := by
      rw [State.takeModeStandby, if_pos (by rwa [State.acceptFrame_mode])]
    generalize (s.acceptFrame p).ack p 0x27#8 = t at rest links records entered
    refine ⟨t.enterStandby, by rw [taken mode.1, entered], ?_, fun q => ?_, fun q => ?_⟩
    · obtain ⟨r, l, eq⟩ := t.enterStandby_eq
      rw [eq, rest]
    · have config : t.config q = s.config q := by rw [rest]; rfl
      rw [State.record_enterStandby, records, config, PortRecord.left, State.config_rest]
    · have config (q : Port) : t.config q = s.config q := by rw [rest]; rfl
      have frameNumber : t.frameNumber = s.frameNumber := by rw [rest]
      have entries : t.entries = s.entries := by rw [rest]
      have same : t.mode = s.mode := by rw [rest]
      have running' : t.supervisory q = s.supervisory q := State.supervisory_congr same (by rw [rest]) q
      have notified (ns : List Notice) (l : LinkPort) : t.notified ns q l = s.notified ns q l := by rw [State.notified, running']; rfl
      have standby : { t with mode := .standby }.supervisory q = s.supervisory q := by
        have own : { t with mode := .standby }.config q = s.config q := config q
        have named : ({ t with mode := .standby }.config p).role = .supervisor := (congrArg PortConfig.role (config p)).trans supervisor
        rw [Bool.eq_iff_iff, State.supervisory_iff_of_not_standby mode.2, State.supervises_iff, State.Supervises, own]
        exact or_iff_left fun access => access.2 p named
      have after : s.linkAfter p (fun q => only p [.ack 0x27#8 false false] q ++
            if (s.record q).participation = .absent then [] else [.limit .release (s.fbOrZero q) s.frameNumber]) q =
          if (s.record q).participation = .absent then t.link q else (t.link q).enqueue (.limit .release (s.fbOrZero q) s.frameNumber) := by
        rw [links]
        unfold State.linkAfter
        rw [List.foldl_append]
        by_cases absent : (s.record q).participation = .absent <;> simp only [absent, if_true, if_false] <;> rfl
      have released : (t.record q).participation = (s.record q).participation := by rw [records]
      have entered := t.link_enterStandby q
      dsimp only at entered
      rw [standby, running'] at entered
      simp only [notified, released, config, frameNumber, entries, same, State.config_rest] at entered
      rw [entered, ← after]
      generalize s.linkAfter p _ q = l
      by_cases told : s.supervisory q = true
      · rw [if_pos told]
        by_cases held : s.entries = [] <;> simp [State.notified, told, held]
      · rw [if_neg told, if_neg told]
        by_cases held : s.entries = [] <;> simp [State.notified, told, held]

/-! ### The end of the image read -/

/-- STANDBY entry out of LOADING, with the records ABSENT and the list empty, only notices the change. -/
theorem State.link_enterStandby_of_loading {s : State} {q : Port} (loading : s.mode = .loading) (absent : (s.record q).participation = .absent)
    (empty : s.entries = []) : s.enterStandby.link q = s.enterStandby.notified [.modeChange .loading .standby] q (s.link q) := by
  have entered := s.link_enterStandby q
  have standing : s.enterStandby.supervisory q = { s with mode := .standby }.supervisory q := by
    obtain ⟨r, l, eq⟩ := s.enterStandby_eq
    rw [eq]
    exact State.supervisory_congr rfl rfl q
  dsimp only at entered
  rw [if_pos absent, if_pos empty, loading] at entered
  rw [entered, State.notified, standing]
  by_cases after : { s with mode := .standby }.supervisory q = true
  · rw [if_pos after, if_pos after]
    rfl
  · have before : ¬s.supervisory q = true := fun before =>
      have role : (s.config q).role = .supervisor := (State.supervisory_iff_of_not_standby (by rw [loading]; nofun) q).1 before
      after ((State.supervises_iff _ q).2 (.inl role))
    rw [if_neg after, if_neg before, if_neg after]

theorem restarted_configuredChannel (c : ChannelConfig) : (configuredChannel c).restarted = configuredChannel c := by
  unfold Channel.restarted
  split
  · rfl
  case isFalse on =>
    have kind : c.kind ≠ .off := fun off => on (if_pos off)
    unfold configuredChannel
    rw [if_neg kind]
    rfl

/-- Settles O8: the reader's result decides between PRIMING entry over the image's configuration and STANDBY entry. -/
theorem imageReadEndsInPrimingOrStandby : Obligations.ImageReadEndsInPrimingOrStandby := by
  intro s memory follows
  refine ⟨fun idle => ?_, fun reading => ?_⟩
  · rw [exec, execConfigReadComplete, idle, if_neg nofun]
  · have loading := follows.reading.1 reading
    have taken : exec (.configReadComplete memory) s = .next (s.endLoading memory).settle := by
      rw [exec, execConfigReadComplete, reading, if_pos rfl]
    have idle : s.mode.idle := .inl loading
    refine ⟨fun e bad => ?_, fun c good => ?_⟩
    · have ended : s.endLoading memory = { s with readProgress := .idle, checkResult := e }.enterStandby := by
        unfold State.endLoading
        rw [bad]
      refine ⟨_, taken, ?_, fun q => ?_, fun q => ?_⟩
      all_goals rw [ended]
      · obtain ⟨r, l, eq⟩ := { s with readProgress := .idle, checkResult := e }.enterStandby_eq
        rw [eq]
      · exact State.link_enterStandby_of_loading loading (follows.absent idle q) (follows.list idle)
      · rw [State.record_enterStandby, PortRecord.left, State.config_rest]
        rfl
    · have ended : s.endLoading memory = (s.loadedWith c).enterPriming := by
        unfold State.endLoading
        rw [good]
        rfl
      have mode : (s.loadedWith c).mode = .loading := loading
      refine ⟨_, taken, ?_, fun i => ?_, fun q => ?_, fun q => ?_⟩
      all_goals rw [ended]
      · obtain ⟨r, l, eq⟩ := (s.loadedWith c).enterPriming_eq
        rw [eq]
        rfl
      · rw [State.channel_enterPriming, State.channel_loadedWith, restarted_configuredChannel, configuredChannel]
      · have shut : (s.loadedWith c).openAccess = false := by rw [State.openAccess, mode]; rfl
        have standing : (s.loadedWith c).enterPriming.supervisory q = true ↔ ((s.loadedWith c).config q).role = .supervisor := by
          rw [State.supervisory_iff_of_not_standby (by rw [State.mode_enterPriming]; nofun), State.config_enterPriming]
        rw [State.link_enterPriming, shut, mode, State.notified]
        simp only [standing]
        rfl
      · have config : (s.loadedWith c).enterPriming.fbOrZero q = c.ports[q].rest := by
          rw [← State.config_rest, State.config_enterPriming, State.config_loadedWith]
        rw [State.record_enterPriming, State.record_loadedWith, config]

end Sys2Proof.Machine
end

section
/-! The records at an expiry (O24). -/

namespace Sys2Proof.Machine

/-! ### What one record comes to -/

/-- The frame number an expiry has (R3). -/
theorem State.numberFrame_of_running {s : State} (running : s.mode.running = true) :
    s.numberFrame = { s with frameNumber := if s.mode = .priming then s.frameNumber else s.frameNumber + 1 } := by
  unfold State.numberFrame
  split
  case h_1 mode | h_2 mode => rw [if_neg (by rw [mode]; nofun)]
  case h_3 notGoverning notHolding =>
    have priming : s.mode = .priming := by
      cases mode : s.mode <;> simp_all [Mode.running]
    rw [if_pos priming]

/-- The value a port is counted at by silence does not depend on a timeout before it (R81, R121). -/
theorem State.silentValue_timedOut (s : State) (p : Port) :
    (s.config p).silentValue ((s.record p).timedOut (s.config p)).committed = max (s.record p).committed (s.fbOrZero p) := by
  rw [PortConfig.silentValue, State.config_rest, PortRecord.timedOut, State.fbOrZero]
  cases (s.config p).role <;> simp

section Aged
variable {s : State} (running : s.mode.running = true) (p : Port)
include running

theorem State.recallExpired_numberFrame :
    ((s.numberFrame.mode == .governing || s.numberFrame.mode == .holding) && s.numberFrame.recallExpired (s.record p)) = s.timesOutAt p := by
  rw [State.numberFrame_of_running running, State.timesOutAt]
  cases mode : s.mode with
  | loading | standby => rw [mode] at running; cases running
  | priming => rfl
  | governing | holding =>
    unfold State.recallExpired
    cases participation : (s.record p).participation with
    | recalling => cases recalled : (s.record p).outstanding <;> simp
    | _ => simp

theorem State.checkTimeout_numberFrame : s.numberFrame.checkTimeout p (s.record p) =
    if s.timesOutAt p = true then ((s.record p).timedOut (s.config p), [((s.record p).timedOut (s.config p)).staleNotice p .yieldTimeout])
    else (s.record p, []) := by
  rw [State.checkTimeout, State.recallExpired_numberFrame running p]
  rw [State.numberFrame_of_running running]
  rfl

/-- A record's counts at an expiry, whatever its standing before and after the timeout check (R114). -/
theorem State.advanceCounts_numberFrame {r : PortRecord} (absent : r.participation = .absent ↔ (s.record p).participation = .absent)
    (silence : r.silence = (s.record p).silence) (reportAge : r.reportAge = (s.record p).reportAge) : s.numberFrame.advanceCounts p r =
    { r with
      silence := s.silenceAt p
      reportAge := (s.record p).reportAge +
        if ((s.config p).role = .cluster ∨ (s.config p).role = .storage) ∧ (s.record p).reportAge < 65535 then 1 else 0 } := by
  have counted : (if r.participation = .absent then r.silence else countUp s.site.silenceLimit r.silence) = s.silenceAt p := by
    rw [State.silenceAt, silence]
    by_cases gone : (s.record p).participation = .absent
    · rw [if_pos (absent.2 gone), if_neg fun h => h.1 gone]
    · rw [if_neg (mt absent.1 gone), countUp]
      simp only [ne_eq, gone, not_false_eq_true, true_and]
  have aged : (if (s.config p).role.steerable = true then advance r.reportAge else r.reportAge) = (s.record p).reportAge +
      if ((s.config p).role = .cluster ∨ (s.config p).role = .storage) ∧ (s.record p).reportAge < 65535 then 1 else 0 := by
    rw [reportAge]
    simp only [Role.steerable_iff]
    by_cases steered : (s.config p).role = .cluster ∨ (s.config p).role = .storage
    · rw [if_pos steered, advance_eq]
      simp only [steered, true_and]
    · rw [if_neg steered, if_neg fun h => steered h.1, add_zero]
  rw [← counted, ← aged, State.numberFrame_of_running running]
  rfl

theorem State.checkSilence_numberFrame {r : PortRecord} (silence : r.silence = s.silenceAt p)
    (falls : r.canFallSilent = true ↔ (s.record p).canFallSilent = true) : s.numberFrame.checkSilence p r =
    if s.fallsSilentAt p = true then (r.silenced (s.config p), [(r.silenced (s.config p)).staleNotice p .silence]) else (r, []) := by
  have due : (r.canFallSilent && s.site.silenceLimit ≤ r.silence) = s.fallsSilentAt p := by
    rw [State.fallsSilentAt, silence, Bool.eq_iff_iff, Bool.and_eq_true, falls]
    simp [PortRecord.canFallSilent, PortRecord.silent]
  rw [State.numberFrame_of_running running, State.checkSilence]
  exact if_congr (iff_of_eq (congrArg (· = true) due)) rfl rfl

/-- A record's way through an expiry: the timeout, the counts, the silence (R113, R114, R121). -/
theorem State.aged_numberFrame :
    let timed := if s.timesOutAt p = true then (s.record p).timedOut (s.config p) else s.record p
    let counted : PortRecord :=
      { timed with
        silence := s.silenceAt p
        reportAge := (s.record p).reportAge +
          if ((s.config p).role = .cluster ∨ (s.config p).role = .storage) ∧ (s.record p).reportAge < 65535 then 1 else 0 }
    s.numberFrame.aged p =
      (if s.fallsSilentAt p = true then counted.silenced (s.config p) else counted,
        (if s.timesOutAt p = true then [timed.staleNotice p .yieldTimeout] else []) ++
          if s.fallsSilentAt p = true then [(counted.silenced (s.config p)).staleNotice p .silence] else []) := by
  intro timed counted
  have record : s.numberFrame.record p = s.record p := by rw [State.numberFrame_of_running running]; rfl
  have recalling (due : s.timesOutAt p = true) : (s.record p).participation = .recalling := by
    simp only [State.timesOutAt, Bool.and_eq_true, beq_iff_eq] at due
    exact due.1.2
  have timeout : s.numberFrame.checkTimeout p (s.record p) =
      (timed, if s.timesOutAt p = true then [timed.staleNotice p .yieldTimeout] else []) := by
    rw [State.checkTimeout_numberFrame running p]
    by_cases due : s.timesOutAt p = true <;> simp [timed, due]
  have counts : s.numberFrame.advanceCounts p timed = counted := by
    refine State.advanceCounts_numberFrame running p ?_ ?_ ?_
    all_goals
      by_cases due : s.timesOutAt p = true
      · simp [timed, due, PortRecord.timedOut, recalling due]
      · simp [timed, due]
  have falls : counted.canFallSilent = true ↔ (s.record p).canFallSilent = true := by
    by_cases due : s.timesOutAt p = true
    · simp [counted, timed, due, PortRecord.timedOut, PortRecord.canFallSilent, PortRecord.silent, recalling due]
    · simp [counted, timed, due, PortRecord.canFallSilent, PortRecord.silent]
  rw [State.aged, record, timeout]
  dsimp only
  rw [counts, State.checkSilence_numberFrame running p rfl falls]
  by_cases due : s.fallsSilentAt p = true
  · rw [if_pos due, if_pos due, if_pos due]
  · rw [if_neg due, if_neg due, if_neg due]

theorem State.notices_aged : (s.numberFrame.aged p).2 = s.portStaleEntries p := by
  rw [State.aged_numberFrame running p, State.portStaleEntries]
  dsimp only
  by_cases timeout : s.timesOutAt p = true
  · have silent := s.silentValue_timedOut p
    simp only [if_pos timeout, PortRecord.staleNotice, PortRecord.silenced, silent]
    rfl
  · simp only [if_neg timeout, PortRecord.staleNotice, PortRecord.silenced, PortConfig.silentValue, State.config_rest]

end Aged

/-! ### The order of the notices -/

theorem perm_putLast {α : Type} (n : Nat) (xs : List α) : (putLast n xs).Perm xs := by
  unfold putLast
  by_cases held : n < xs.length
  · rw [List.getElem?_eq_getElem held, Option.toList_some]
    exact (List.perm_append_comm).trans (List.getElem_cons_eraseIdx_perm held)
  · rw [List.getElem?_eq_none (by omega), List.eraseIdx_of_length_le (by omega)]
    simp

/-- The notices are those of the ports that enter STALE, a port's own in their order (R131). -/
theorem State.orderedStaleNotices_perm (s : State) : ∃ groups : List (List Notice), groups.Perm s.staleNotices ∧ s.orderedStaleNotices = groups.flatten := by
  unfold State.orderedStaleNotices
  split
  case h_1 none => exact ⟨[], none ▸ .refl _, rfl⟩
  case h_2 ns one => exact ⟨[ns], one ▸ .refl _, by simp⟩
  case h_3 groups _ _ => exact ⟨_, perm_putLast _ _, rfl⟩

theorem flatten_filter_isEmpty {α : Type} (xss : List (List α)) : (xss.filter fun xs => !xs.isEmpty).flatten = xss.flatten := by
  induction xss with
  | nil => rfl
  | cons xs xss ih => cases xs <;> simp [ih]

theorem State.staleNotices_ordered {s : State} (running : s.mode.running = true) : s.StaleNotices s.numberFrame.orderedStaleNotices := by
  obtain ⟨groups, perm, ordered⟩ := s.numberFrame.orderedStaleNotices_perm
  have entries : s.numberFrame.staleNotices = ((List.finRange 12).map s.portStaleEntries).filter fun ns => !ns.isEmpty := by
    unfold State.staleNotices
    rw [List.map_congr_left fun p _ => State.notices_aged running p]
  rw [ordered]
  refine ⟨?_, fun p => ?_⟩
  · refine perm.flatten.trans ?_
    rw [entries, flatten_filter_isEmpty, List.flatMap_def]
  · by_cases none : s.portStaleEntries p = []
    · rw [none]
      exact List.nil_sublist _
    · refine List.sublist_flatten_of_mem (perm.mem_iff.2 ?_)
      rw [entries, List.mem_filter]
      exact ⟨List.mem_map.2 ⟨p, List.mem_finRange p, rfl⟩, by simpa using none⟩

/-! ### The whole of it -/

theorem State.record_ageRecords (s : State) (p : Port) : s.ageRecords.record p = (s.aged p).1 := by
  rw [State.ageRecords, State.raiseAll_record]
  exact State.record_mapRecords s (fun p _ => (s.aged p).1) p

theorem State.link_ageRecords (s : State) (q : Port) : s.ageRecords.link q = s.notified s.orderedStaleNotices q (s.link q) := by
  rw [State.ageRecords, State.link_raiseAll]
  rfl

theorem State.fallsSilentAt_iff (s : State) (p : Port) : s.fallsSilentAt p = true ↔
    (s.record p).participation ≠ .absent ∧ ¬((s.record p).participation = .stale ∧ (s.record p).cause = some .silence) ∧
      s.site.silenceLimit ≤ s.silenceAt p := by
  rw [State.fallsSilentAt]
  simp only [Bool.and_eq_true, bne_iff_ne, Bool.not_eq_true', ← Bool.not_eq_true, beq_iff_eq, decide_eq_true_eq, and_assoc]

theorem State.timesOutAt_iff (s : State) (p : Port) : s.timesOutAt p = true ↔
    s.mode ≠ .priming ∧ (s.record p).participation = .recalling ∧
      ∃ u, (s.record p).outstanding = some u ∧ s.site.yieldLimit ≤ (s.frameNumber + 1 - u.firstSend).toNat := by
  simp only [State.timesOutAt, Bool.and_eq_true, bne_iff_ne, beq_iff_eq, Option.any_eq_true, decide_eq_true_eq, and_assoc]

/-- Settles O24: each record goes through the timeout, its counts and the silence, and the notices are those of the entries into STALE. -/
theorem expiryAgesEveryRecord : Obligations.ExpiryAgesEveryRecord := by
  intro s running v frame silence timesOut fallsSilent counted storageRaised timeouts
  have times (p : Port) : s.timesOutAt p = true ↔ timesOut p := by
    rw [State.timesOutAt_iff]
    exact and_congr_right fun governs => by rw [show frame = s.frameNumber + 1 from if_neg governs]
  have falls (p : Port) : s.fallsSilentAt p = true ↔ fallsSilent p := s.fallsSilentAt_iff p
  have record (p : Port) : v.record p = (s.numberFrame.aged p).1 := State.record_ageRecords _ p
  have entries (p : Port) : s.portStaleEntries p = (s.numberFrame.aged p).2 := (State.notices_aged running p).symm
  have timeoutCount (p : Port) : advance (s.record p).recallTimeouts = timeouts p := advance_eq _
  refine ⟨?_, fun p stays heard => ?_, fun p expired heard => ?_, fun p stays silent => ?_, fun p expired silent => ?_,
    s.numberFrame.orderedStaleNotices, State.staleNotices_ordered running, fun q => ?_⟩
  · have aged : v = { s.numberFrame with openChoices := v.openChoices, records := v.records, links := v.links } := by
      obtain ⟨o, l, eq⟩ := s.numberFrame.ageRecords_eq
      rw [show v = _ from eq]
    have numbered : s.numberFrame = { s with frameNumber := frame } := State.numberFrame_of_running running
    rw [numbered] at aged
    exact aged
  · rw [record, State.portStaleEntries, if_neg (mt (times p).1 stays), if_neg (mt (falls p).1 heard), State.aged_numberFrame running p]
    dsimp only
    rw [if_neg (mt (times p).1 stays), if_neg (mt (falls p).1 heard)]
    exact ⟨rfl, rfl⟩
  · rw [record, State.portStaleEntries, if_pos ((times p).2 expired), if_neg (mt (falls p).1 heard), State.aged_numberFrame running p]
    dsimp only
    rw [if_pos ((times p).2 expired), if_neg (mt (falls p).1 heard)]
    refine ⟨rfl, ?_⟩
    rw [← timeoutCount]
    rfl
  · rw [record, State.portStaleEntries, if_neg (mt (times p).1 stays), if_pos ((falls p).2 silent), State.aged_numberFrame running p]
    dsimp only
    rw [if_neg (mt (times p).1 stays), if_pos ((falls p).2 silent)]
    refine ⟨rfl, ?_⟩
    rw [PortRecord.silenced, PortConfig.silentValue, State.config_rest]
    rfl
  · have raised := s.silentValue_timedOut p
    rw [record, State.portStaleEntries, if_pos ((times p).2 expired), if_pos ((falls p).2 silent), State.aged_numberFrame running p]
    dsimp only
    rw [if_pos ((times p).2 expired), if_pos ((falls p).2 silent)]
    refine ⟨rfl, ?_⟩
    rw [← timeoutCount, ← raised]
    rfl
  · have numbered := State.numberFrame_of_running running
    have link : s.numberFrame.link q = s.link q := by rw [numbered]; rfl
    have standing : s.numberFrame.supervisory q = s.supervisory q := State.supervisory_congr (by rw [numbered]) (by rw [numbered]) q
    refine (State.link_ageRecords _ q).trans ?_
    rw [link, State.notified, standing]
    rfl

end Sys2Proof.Machine
end

section
/-! The Profile List at an expiry (O25). -/

namespace Sys2Proof.Machine

/-! ### One entry -/

/-- What an expiry makes of an entry (R46, R48). -/
theorem Entry.tick_entry (e : Entry) : e.tick.entry =
    if e.state = .pending then
      if e.frames = 0 then some { e with state := .active, frames := e.expiry, profile := { e.profile with reseed := false } }
      else some { e with frames := e.frames - 1 }
    else if e.expiry = 0 then some e
    else if e.frames ≤ 1 then none
    else some { e with frames := e.frames - 1 } := by
  unfold Entry.tick
  split
  case h_1 pending => rw [if_pos pending]; split <;> rfl
  case h_2 active =>
    have other : e.state ≠ .pending := by rw [active]; nofun
    rw [if_neg other]
    split
    · rfl
    · split <;> rfl

theorem Entry.tick_change (e : Entry) : e.tick.change =
    (if e.state = .pending then if e.frames = 0 then some ListCause.activated else none
      else if e.expiry ≠ 0 ∧ e.frames ≤ 1 then some .expired else none).map fun cause => (cause, e.port) := by
  unfold Entry.tick
  split
  case h_1 pending => rw [if_pos pending]; split <;> rfl
  case h_2 active =>
    have other : e.state ≠ .pending := by rw [active]; nofun
    rw [if_neg other]
    by_cases unending : e.expiry = 0
    · rw [if_pos unending, if_neg fun h => h.1 unending]; rfl
    · by_cases out : e.frames ≤ 1
      · rw [if_neg unending, if_pos out, if_pos ⟨unending, out⟩]; rfl
      · rw [if_neg unending, if_neg out, if_neg fun h => out h.2]; rfl

theorem Entry.tick_reseed (e : Entry) : e.tick.reseed = true ↔ e.state = .pending ∧ e.frames = 0 ∧ e.profile.reseed = true := by
  unfold Entry.tick
  split
  case h_1 pending => split <;> simp_all
  case h_2 active =>
    simp only [active, reduceCtorEq, false_and, iff_false]
    split
    · nofun
    · split <;> nofun

/-! ### The list -/

theorem State.link_foldl_listChange (changes : List (ListCause × Port)) (s : State) (q : Port) :
    (changes.foldl (fun t (change : ListCause × Port) => t.listChange change.1 (some change.2)) s).link q =
      s.notified (changes.map fun change => .listChange change.1 (some change.2) s.entries.length (activePosition s.entries)) q (s.link q) := by
  induction changes generalizing s with
  | nil => rw [List.foldl_nil, List.map_nil, State.notified_nil]
  | cons change changes ih =>
    have entries : (s.listChange change.1 (some change.2)).entries = s.entries := State.listChange_entries _ _ _
    have standing : (s.listChange change.1 (some change.2)).supervisory q = s.supervisory q := State.listChange_supervisory _ _ _ _
    rw [List.foldl_cons, ih, entries, State.listChange, State.link_raise, List.map_cons]
    unfold State.notified
    rw [State.raise_supervisory]
    by_cases told : s.supervisory q = true
    · rw [if_pos told, if_pos told, if_pos told]; rfl
    · rw [if_neg told, if_neg told, if_neg told]

/-- The list work of an expiry, before its changes are noticed (R31, R49). -/
def State.relisted (s : State) : State :=
  if s.entries.any fun e => e.tick.reseed then { s with entries := tickedEntries s.entries }.reseed else { s with entries := tickedEntries s.entries }

theorem State.relisted_eq (s : State) : ∃ b n r, s.relisted =
    { s with entries := tickedEntries s.entries, windowBase := b, sinceBase := n, reseedPending := r } := by
  unfold State.relisted
  split
  exacts [⟨_, _, _, rfl⟩, ⟨_, _, _, rfl⟩]

theorem State.updateList_relisted (s : State) : ∃ l, s.updateList = { s.relisted with links := l } := State.foldl_listChange_eq _ _

theorem State.link_updateList (s : State) (q : Port) : s.updateList.link q =
    s.notified ((tickedChanges s.entries).map fun change =>
      .listChange change.1 (some change.2) (tickedEntries s.entries).length (activePosition (tickedEntries s.entries))) q (s.link q) := by
  have noticed := State.link_foldl_listChange (tickedChanges s.entries) s.relisted q
  obtain ⟨b, n, r, eq⟩ := s.relisted_eq
  have updated : s.updateList.link q = (State.link ((tickedChanges s.entries).foldl
      (fun t (change : ListCause × Port) => t.listChange change.1 (some change.2)) s.relisted) q) := rfl
  rw [updated, noticed, eq]
  rfl

/-! ### The life of an entry -/

theorem tickedEntries_singleton (e : Entry) : tickedEntries [e] = e.tick.entry.toList := by
  unfold tickedEntries
  cases h : e.tick.entry <;> simp [h]

theorem iterate_tickedEntries_nil (k : Nat) : tickedEntries^[k] [] = [] := Function.iterate_fixed rfl k

/-- An ACTIVE entry with frames left, over its expiries (R48). -/
theorem iterate_tickedEntries_active {e : Entry} (active : e.state = .active) (ends : e.expiry ≠ 0) (k : Nat) :
    (k < e.frames → tickedEntries^[k] [e] = [{ e with frames := e.frames - k }]) ∧ (e.frames ≤ k → 0 < k → tickedEntries^[k] [e] = []) := by
  induction k generalizing e with
  | zero => exact ⟨fun _ => rfl, fun _ h => absurd h (lt_irrefl 0)⟩
  | succ k ih =>
    have ticked : tickedEntries [e] = if e.frames ≤ 1 then [] else [{ e with frames := e.frames - 1 }] := by
      rw [tickedEntries_singleton, Entry.tick_entry, if_neg (by rw [active]; nofun), if_neg ends]
      split <;> rfl
    rw [Function.iterate_succ_apply, ticked]
    by_cases last : e.frames ≤ 1
    · rw [if_pos last]
      exact ⟨fun h => by omega, fun _ _ => iterate_tickedEntries_nil k⟩
    · rw [if_neg last]
      obtain ⟨stays, goes⟩ := ih (e := { e with frames := e.frames - 1 }) active ends
      refine ⟨fun h => ?_, fun h _ => goes (by simp only; omega) (by omega)⟩
      rw [stays (by simp only; omega)]
      simp only [List.cons.injEq, and_true]
      congr 1
      omega

/-- A PENDING entry over its expiries, up to its activation (R46). -/
theorem iterate_tickedEntries_pending {e : Entry} (pending : e.state = .pending) (k : Nat) (h : k ≤ e.frames) :
    tickedEntries^[k] [e] = [{ e with frames := e.frames - k }] := by
  induction k generalizing e with
  | zero => rfl
  | succ k ih =>
    have ticked : tickedEntries [e] = [{ e with frames := e.frames - 1 }] := by
      rw [tickedEntries_singleton, Entry.tick_entry, if_pos pending, if_neg (by omega)]
      rfl
    rw [Function.iterate_succ_apply, ticked, ih (e := { e with frames := e.frames - 1 }) pending (by simp only; omega)]
    simp only [List.cons.injEq, and_true]
    congr 1
    omega

/-- An entry as its activation leaves it (R46, R47). -/
def Entry.activated (e : Entry) : Entry := { e with state := .active, frames := e.expiry, profile := { e.profile with reseed := false } }

/-- An entry that has activated, at the expiry after its delay (R46). -/
theorem iterate_tickedEntries_activation {e : Entry} (pending : e.state = .pending) :
    tickedEntries^[e.frames + 1] [e] = [e.activated] := by
  rw [Function.iterate_succ_apply', iterate_tickedEntries_pending pending _ (le_refl _), tickedEntries_singleton, Entry.tick_entry]
  simp [pending, Entry.activated]

theorem iterate_tickedEntries_life {e : Entry} (pending : e.state = .pending) (k : Nat) :
    (k ≤ e.frames → tickedEntries^[k] [e] = [{ e with frames := e.frames - k }]) ∧
    (e.frames < k → (e.expiry = 0 ∨ k ≤ e.frames + e.expiry) → tickedEntries^[k] [e] = [{ e with
        state := .active, profile := { e.profile with reseed := false }
        frames := if e.expiry = 0 then 0 else e.frames + 1 + e.expiry - k }]) ∧
    (e.expiry ≠ 0 → e.frames + e.expiry < k → tickedEntries^[k] [e] = []) := by
  refine ⟨iterate_tickedEntries_pending pending k, fun begun lasts => ?_, fun ends gone => ?_⟩
  · obtain ⟨j, rfl⟩ : ∃ j, k = j + (e.frames + 1) := ⟨k - (e.frames + 1), by omega⟩
    rw [Function.iterate_add_apply, iterate_tickedEntries_activation pending]
    by_cases unending : e.expiry = 0
    · rw [if_pos unending, unending]
      have fixed : tickedEntries [e.activated] = [e.activated] := by
        rw [tickedEntries_singleton, Entry.tick_entry]
        simp [Entry.activated, unending]
      rw [Function.iterate_fixed fixed j, Entry.activated, unending]
    · have left := (iterate_tickedEntries_active (e := e.activated) rfl unending j).1 (by simp only [Entry.activated]; omega)
      have remaining : e.frames + 1 + e.expiry - (j + (e.frames + 1)) = e.expiry - j := by omega
      rw [if_neg unending, left, remaining]
      rfl
  · obtain ⟨j, rfl⟩ : ∃ j, k = j + (e.frames + 1) := ⟨k - (e.frames + 1), by omega⟩
    rw [Function.iterate_add_apply, iterate_tickedEntries_activation pending]
    exact (iterate_tickedEntries_active (e := e.activated) rfl ends j).2 (by simp only [Entry.activated]; omega) (by omega)

/-! ### The active profile -/

theorem activePosition_of_none {es : List Entry} (h : ∀ e ∈ es, e.state ≠ .active) : activePosition es = 0 := by
  induction es with
  | nil => rfl
  | cons e es ih => rw [activePosition, ih fun x mem => h x (List.mem_cons_of_mem e mem)]; exact if_neg (h e List.mem_cons_self)

theorem activePosition_of_newest {older newer : List Entry} {e : Entry} (active : e.state = .active) (h : ∀ x ∈ newer, x.state ≠ .active) :
    activePosition (older ++ e :: newer) = older.length + 1 := by
  induction older with
  | nil => rw [List.nil_append, activePosition, activePosition_of_none h]; exact if_pos active
  | cons x older ih => rw [List.cons_append, activePosition, ih]; rfl

/-- Settles O25: the list work of one expiry, an entry's expiries one after the other, and the newest ACTIVE entry of a list. -/
theorem expiryBringsTheListUpToDate : Obligations.ExpiryBringsTheListUpToDate := by
  refine ⟨fun s running => ?_, fun e k pending => iterate_tickedEntries_life pending k, fun s => ⟨fun older e newer held active rest => ?_, fun none => ?_⟩⟩
  · intro v listed change reseeds
    obtain ⟨l, updated⟩ := s.updateList_relisted
    obtain ⟨b, n, r, eq⟩ := s.relisted_eq
    have entries : v.entries = tickedEntries s.entries := by rw [show v = _ from updated, eq]
    have reseeded : (s.entries.any fun e => e.tick.reseed) = true ↔ reseeds := by
      simp only [List.any_eq_true, Entry.tick_reseed, reseeds]
    refine ⟨?_, fun due => ?_, fun none => ?_, fun q => ?_, ?_⟩
    · rw [entries, tickedEntries]
      exact congrArg (fun f => s.entries.filterMap f) (funext Entry.tick_entry)
    · rw [show v = _ from updated, State.relisted, if_pos (reseeded.2 due)]
      exact ⟨rfl, rfl, rfl⟩
    · rw [show v = _ from updated, State.relisted, if_neg (mt reseeded.1 none)]
      exact ⟨rfl, rfl, rfl⟩
    · rw [entries, show v.link q = _ from s.link_updateList q, tickedChanges, List.map_filterMap]
      refine congrArg (fun f => s.notified (s.entries.filterMap f) q (s.link q)) (funext fun e => ?_)
      rw [Entry.tick_change, Option.map_map]
      rfl
    · rw [show v = _ from updated, eq]
  · have position := activePosition_of_newest (older := older) active rest
    rw [← held] at position
    refine ⟨?_, position⟩
    have newest : activeEntry s.entries = some e := by
      rw [activeEntry_eq, position, if_neg (by omega), held]
      simp
    rw [State.activeProfile, newest]
  · have position := activePosition_of_none none
    refine ⟨?_, position⟩
    rw [State.activeProfile, activeEntry_eq, position, if_pos rfl]

end Sys2Proof.Machine
end

section
/-! The append of a record (O40). -/

namespace Sys2Proof.Machine

/-! ### Extremes of a list -/

theorem leastOf_spec (v : Int) (vs : List Int) : leastOf v vs ≤ v ∧ (∀ x ∈ vs, leastOf v vs ≤ x) ∧ (leastOf v vs = v ∨ leastOf v vs ∈ vs) := by
  induction vs generalizing v with
  | nil => exact ⟨le_refl v, nofun, .inl rfl⟩
  | cons y ys ih =>
    obtain ⟨below, least, attained⟩ := ih (min v y)
    rw [show leastOf v (y :: ys) = leastOf (min v y) ys from rfl]
    refine ⟨below.trans (min_le_left _ _), fun x mem => ?_, ?_⟩
    · rcases List.mem_cons.1 mem with rfl | mem
      exacts [below.trans (min_le_right _ _), least x mem]
    · rcases attained with eq | mem
      · rcases min_choice v y with h | h
        · exact .inl (eq.trans h)
        · exact .inr (by rw [eq, h]; exact List.mem_cons_self)
      · exact .inr (List.mem_cons_of_mem y mem)

theorem greatestOf_spec (v : Int) (vs : List Int) : v ≤ greatestOf v vs ∧ (∀ x ∈ vs, x ≤ greatestOf v vs) ∧ (greatestOf v vs = v ∨ greatestOf v vs ∈ vs) := by
  induction vs generalizing v with
  | nil => exact ⟨le_refl v, nofun, .inl rfl⟩
  | cons y ys ih =>
    obtain ⟨above, greatest, attained⟩ := ih (max v y)
    rw [show greatestOf v (y :: ys) = greatestOf (max v y) ys from rfl]
    refine ⟨(le_max_left _ _).trans above, fun x mem => ?_, ?_⟩
    · rcases List.mem_cons.1 mem with rfl | mem
      exacts [(le_max_right _ _).trans above, greatest x mem]
    · rcases attained with eq | mem
      · rcases max_choice v y with h | h
        · exact .inl (eq.trans h)
        · exact .inr (by rw [eq, h]; exact List.mem_cons_self)
      · exact .inr (List.mem_cons_of_mem y mem)

/-! ### The compliance check -/

section Excess
variable {profile : Profile} {tolerance P : Int} {exports : List Int}

/-- A measured value among those of the window fails the check where it lies too far above the lowest or below the highest of them (R33, R34). -/
theorem complianceExcess_spec (mem : P ∈ exports) :
    (complianceExcess profile tolerance P exports = none ∧
      ∀ x ∈ exports, P - x - (profile.lup + tolerance) ≤ 0 ∧ x - P - (profile.ldn + tolerance) ≤ 0) ∨
    ∃ excess, complianceExcess profile tolerance P exports = some excess ∧ 0 < excess ∧
      (∀ x ∈ exports, P - x - (profile.lup + tolerance) ≤ excess ∧ x - P - (profile.ldn + tolerance) ≤ excess) ∧
      ∃ x ∈ exports, P - x - (profile.lup + tolerance) = excess ∨ x - P - (profile.ldn + tolerance) = excess := by
  obtain ⟨_, least, low⟩ := leastOf_spec P exports
  obtain ⟨_, greatest, high⟩ := greatestOf_spec P exports
  have lowest : leastOf P exports ∈ exports := low.elim (fun eq => by rwa [eq]) id
  have highest : greatestOf P exports ∈ exports := high.elim (fun eq => by rwa [eq]) id
  unfold complianceExcess
  dsimp only
  by_cases fails : 0 < P - leastOf P exports - (profile.lup + tolerance) ∨ 0 < greatestOf P exports - P - (profile.ldn + tolerance)
  · refine .inr ⟨_, if_pos fails, lt_max_iff.2 fails, fun x mem => ?_, ?_⟩
    · have := least x mem
      have := greatest x mem
      omega
    · rcases max_choice (P - leastOf P exports - (profile.lup + tolerance)) (greatestOf P exports - P - (profile.ldn + tolerance)) with eq | eq
      exacts [⟨_, lowest, .inl eq.symm⟩, ⟨_, highest, .inr eq.symm⟩]
  · refine .inl ⟨if_neg fails, fun x mem => ?_⟩
    have := least x mem
    have := greatest x mem
    omega

end Excess

/-! ### The append -/

/-- The record as it enters the ring, with RESEED where one is due (R28). -/
def State.marked (s : State) (r : FrameRecord) : FrameRecord := { r with marks := { r.marks with reseed := r.marks.reseed || s.reseedPending } }

theorem State.pushRecord_eq (s : State) (r : FrameRecord) : s.pushRecord r =
    { s with reseedPending := false, ring := (s.marked r :: s.ring).take 600, sinceBase := countUp 600 s.sinceBase } := by
  unfold State.pushRecord State.marked
  cases s.reseedPending <;> simp [Config.ringCapacity]

theorem filterMap_measured_markCompliance (ring : List FrameRecord) (n : Nat) :
    ((markCompliance ring).take n).filterMap FrameRecord.measured = (ring.take n).filterMap FrameRecord.measured := by
  cases ring with
  | nil => rfl
  | cons r ring => cases n <;> rfl

section Appended
variable (s : State) (profile : Profile) (r : FrameRecord)

/-- The measured exports the check is made over (R33). -/
def State.exportsAfter : List Int := complianceSet (s.pushRecord r).ring profile.window (s.pushRecord r).sinceBase

theorem State.exports_appendRecord :
    ((s.appendRecord profile r).ring.take (min profile.window (s.appendRecord profile r).sinceBase)).filterMap FrameRecord.measured =
      s.exportsAfter profile r := by
  unfold State.appendRecord State.checkCompliance State.exportsAfter complianceSet
  split
  · rfl
  · dsimp only
    split
    · rfl
    · split
      · exact filterMap_measured_markCompliance (s.pushRecord r).ring (min profile.window (s.pushRecord r).sinceBase)
      · exact filterMap_measured_markCompliance (s.pushRecord r).ring (min profile.window (s.pushRecord r).sinceBase)

variable {s profile r}

theorem State.mem_exportsAfter {P : Int} (inRange : profile.inRange = true) (measured : r.measured = some P) : P ∈ s.exportsAfter profile r := by
  have window : 1 ≤ profile.window := by
    simp only [Profile.inRange, Bool.and_eq_true, decide_eq_true_eq] at inRange
    omega
  have since : 1 ≤ (s.pushRecord r).sinceBase := by
    rw [State.pushRecord_eq]
    simp only [countUp]
    split <;> omega
  obtain ⟨n, taken⟩ : ∃ n, min profile.window (s.pushRecord r).sinceBase = n + 1 := ⟨min profile.window (s.pushRecord r).sinceBase - 1, by omega⟩
  rw [State.exportsAfter, complianceSet, taken, State.pushRecord_eq]
  exact List.mem_filterMap.2 ⟨s.marked r, by simp, measured⟩

theorem State.appendRecord_of_unmeasured (none : r.measured = none) : s.appendRecord profile r = s.pushRecord r := by
  rw [State.appendRecord, none]
  rfl

theorem State.appendRecord_of_pass {P : Int} (measured : r.measured = some P)
    (passes : complianceExcess profile s.site.tolerance P (s.exportsAfter profile r) = none) :
    s.appendRecord profile r = { s.pushRecord r with complianceLatched := false } := by
  have checked : complianceExcess profile (s.pushRecord r).site.tolerance P
      (complianceSet (s.pushRecord r).ring profile.window (s.pushRecord r).sinceBase) = none := passes
  rw [State.appendRecord, measured, State.checkCompliance]
  dsimp only
  rw [checked]

theorem State.appendRecord_of_failure {P excess : Int} (measured : r.measured = some P)
    (fails : complianceExcess profile s.site.tolerance P (s.exportsAfter profile r) = some excess) :
    s.appendRecord profile r =
      if s.complianceLatched then { s.pushRecord r with ring := markCompliance (s.pushRecord r).ring, complianceLatched := true }
      else
        { s.pushRecord r with
          ring := markCompliance (s.pushRecord r).ring, complianceLatched := true
          complianceEpisodes := advance s.complianceEpisodes }.raise (.compliance excess) := by
  have checked : complianceExcess profile (s.pushRecord r).site.tolerance P
      (complianceSet (s.pushRecord r).ring profile.window (s.pushRecord r).sinceBase) = some excess := fails
  rw [State.appendRecord, measured, State.checkCompliance]
  dsimp only
  rw [checked]
  rfl

end Appended

/-- Settles O40: the record is pushed, and then judged where it has a measured value. -/
theorem appendMarksAndChecksTheRecord : Obligations.AppendMarksAndChecksTheRecord := by
  intro s profile r inRange t exports rise fall fails
  have pushed := s.pushRecord_eq r
  have set : exports = s.exportsAfter profile r := s.exports_appendRecord profile r
  have unmarked : ((s.marked r).marks.compliance = true ↔ r.marks.compliance = true ∨ fails) ↔ (fails → r.marks.compliance = true) :=
    ⟨fun h f => h.2 (.inr f), fun h => ⟨.inl, fun either => either.elim id h⟩⟩
  rcases Option.eq_none_or_eq_some r.measured with measured | ⟨P, measured⟩
  · have eq : t = s.pushRecord r := State.appendRecord_of_unmeasured measured
    have passes : ¬fails := fun ⟨P, known, _⟩ => nomatch measured.symm.trans known
    rw [eq, pushed]
    exact ⟨⟨(s.marked r).marks, rfl, rfl, rfl, rfl, rfl, unmarked.2 fun f => absurd f passes⟩, rfl, rfl, fun _ => rfl, fun h => absurd measured h,
      fun f => absurd f passes, fun _ => ⟨rfl, rfl⟩, rfl⟩
  · have known : r.measured ≠ none := by rw [measured]; nofun
    rcases complianceExcess_spec (profile := profile) (tolerance := s.site.tolerance) (State.mem_exportsAfter (s := s) inRange measured) with
      ⟨passed, bounds⟩ | ⟨excess, failed, positive, bounds, attained⟩
    · have eq : t = { s.pushRecord r with complianceLatched := false } := State.appendRecord_of_pass measured passed
      have passes : ¬fails := by
        rintro ⟨P', known, x, mem, beyond⟩
        obtain rfl : P = P' := Option.some.inj (measured.symm.trans known)
        obtain ⟨rises, falls⟩ := bounds x (set ▸ mem)
        rcases beyond with beyond | beyond
        exacts [absurd beyond (not_lt.2 rises), absurd beyond (not_lt.2 falls)]
      rw [eq, pushed]
      exact ⟨⟨(s.marked r).marks, rfl, rfl, rfl, rfl, rfl, unmarked.2 fun f => absurd f passes⟩, rfl, rfl, fun h => absurd h known, fun _ => ⟨nofun, fun f => absurd f passes⟩,
        fun f => absurd f passes, fun _ => ⟨rfl, rfl⟩, rfl⟩
    · have eq := State.appendRecord_of_failure measured failed
      have beyond : fails := by
        obtain ⟨x, mem, worst⟩ := attained
        refine ⟨P, measured, x, set ▸ mem, ?_⟩
        rcases worst with worst | worst
        exacts [.inl (lt_of_lt_of_eq positive worst.symm), .inr (lt_of_lt_of_eq positive worst.symm)]
      have marks : ∃ m : Marks, markCompliance ((s.marked r :: s.ring).take 600) = ({ r with marks := m } :: s.ring).take 600 ∧
          m = { (s.marked r).marks with compliance := true } := ⟨_, rfl, rfl⟩
      obtain ⟨m, ring, same⟩ := marks
      have complies : (m.compliance = true ↔ r.marks.compliance = true ∨ fails) := ⟨fun _ => .inr beyond, fun _ => by rw [same]⟩
      have framed : t.ring = ({ r with marks := m } :: s.ring).take 600 ∧ t.sinceBase = countUp 600 s.sinceBase ∧ t.reseedPending = false ∧
          t.complianceLatched = true ∧ t = { s with
            ring := t.ring, sinceBase := t.sinceBase, reseedPending := t.reseedPending, complianceLatched := t.complianceLatched
            complianceEpisodes := t.complianceEpisodes, links := t.links } := by
        rw [show t = _ from eq, pushed, ← ring]
        split
        exacts [⟨rfl, rfl, rfl, rfl, rfl⟩, ⟨rfl, rfl, rfl, rfl, rfl⟩]
      obtain ⟨ringEq, since, reseed, latched, rest⟩ := framed
      refine ⟨⟨m, ringEq, by rw [same]; rfl, by rw [same]; rfl, by rw [same]; rfl, by rw [same]; rfl, complies⟩, since, reseed, fun h => absurd h known,
        fun _ => ⟨fun _ => beyond, fun _ => latched⟩, fun _ fresh => ?_, fun quiet => ?_, rest⟩
      · rw [fresh, if_neg nofun, pushed] at eq
        refine ⟨by rw [show t = _ from eq, State.raise_complianceEpisodes, advance_eq], P, excess, measured, ?_, ?_, fun q => ?_⟩
        · rw [set]; exact bounds
        · rw [set]; exact attained
        · rw [show t = _ from eq, State.link_raise]
          rfl
      · have again : s.complianceLatched = true := quiet.resolve_left fun h => h beyond
        rw [again, if_pos rfl, pushed] at eq
        rw [show t = _ from eq]
        exact ⟨rfl, rfl⟩

end Sys2Proof.Machine
end

section
/-! PRIMING at an expiry, and the end of PRIMING (O26, O27). -/

namespace Sys2Proof.Machine

/-! ### The meter -/

theorem find?_map_of_unique {α β : Type} {f : α → β} {test : β → Bool} {xs : List α} {a : α} (mem : a ∈ xs) (holds : test (f a) = true)
    (unique : ∀ b ∈ xs, test (f b) = true → b = a) : (xs.map f).find? test = some (f a) := by
  rw [List.find?_map]
  cases found : xs.find? (test ∘ f) with
  | none => exact absurd holds (List.find?_eq_none.1 found a mem)
  | some b => rw [Option.map_some, unique b (List.mem_of_find?_eq_some found) (List.find?_some (p := test ∘ f) found)]

/-- The meter is the one channel of kind POI_POWER (R141). -/
theorem State.meter_of_unique {s : State} {i : ChannelIndex} (kind : (s.channel i).config.kind = .poiPower)
    (unique : ∀ j, (s.channel j).config.kind = .poiPower → j = i) : s.meter = some (s.channel i) :=
  find?_map_of_unique (List.mem_finRange i) (by rw [kind]; rfl) fun j _ holds => unique j (eq_of_beq holds)

theorem State.meter_of_none {s : State} (without : ∀ i, (s.channel i).config.kind ≠ .poiPower) : s.meter = none := by
  refine List.find?_eq_none.2 fun c mem => ?_
  obtain ⟨i, _, rfl⟩ := List.mem_map.1 mem
  exact fun holds => without i (eq_of_beq holds)

theorem State.measuredPower_congr {s t : State} (channels : t.channels = s.channels) : t.measuredPower = s.measuredPower := by
  have meter : t.meter = s.meter := by rw [State.meter, State.meter, show t.channel = s.channel from funext fun c => by rw [State.channel, channels]; rfl]
  rw [State.measuredPower, meter]
  rfl

/-! ### The expiry -/

theorem State.frameDue_iff (s : State) : s.frameDue = true ↔ s.mode.running = true ∧ s.frameTimer ≠ .stopped := by
  rw [State.frameDue, Bool.and_eq_true, bne_iff_ne, and_comm]

theorem State.expireFrame_of_due {s : State} (due : s.frameDue = true) : s.expireFrame = s.prepareFrame.workFrame.settle := if_pos due

theorem State.expireFrame_of_stopped {s : State} (stopped : s.frameTimer = .stopped) : s.expireFrame = s := by
  refine if_neg fun due => ?_
  exact ((s.frameDue_iff).1 due).2 stopped

theorem State.workFrame_priming {s : State} (mode : s.mode = .priming) : s.workFrame = s.primeFrame := by
  rw [State.workFrame, mode]

/-- What a PRIMING frame sends a port (R5, R118). -/
theorem State.emitPriming_at {s : State} (sweep : s.sweepOrder.Perm (List.finRange 12)) (p : Port) :
    s.emitPriming.record p =
      { s.record p with
        lastSent := if (s.record p).participation = .engaged then some (s.record p).committed else (s.record p).lastSent } ∧
    s.emitPriming.link p =
      if (s.record p).participation = .engaged then (s.link p).enqueue (.limit .keep (s.record p).committed s.frameNumber) else s.link p := by
  refine foldl_own State.WrittenAt.primeAt (sweep_nodup sweep) (sweep_mem sweep p) s fun u frame record link => ?_
  rw [State.primeAt, record]
  by_cases engaged : (s.record p).participation = .engaged
  · rw [if_pos engaged, if_pos engaged, if_pos engaged, State.record_sendKeep, State.link_sendKeep, if_pos rfl, if_pos rfl, record, link,
      State.frameNumber_of_frame frame]
    exact ⟨rfl, rfl⟩
  · rw [if_neg engaged, if_neg engaged, if_neg engaged, record, link]
    exact ⟨rfl, rfl⟩

/-- The end of PRIMING at a link (R6, R134). -/
theorem State.link_endPriming {s : State} (mode : s.mode = .priming) (power : Int) (q : Port) :
    (s.endPriming power).link q = s.notified [.modeChange .priming .governing] q (s.link q) := by
  rw [State.endPriming, State.link_changeMode]
  have before : s.supervisory q = true ↔ (s.config q).role = .supervisor := State.supervisory_iff_of_not_standby (by rw [mode]; nofun) q
  have after (t : State) (modes : t.mode = .governing) (table : t.portTable = s.portTable) :
      t.supervisory q = true ↔ (s.config q).role = .supervisor := by
    rw [State.supervisory_iff_of_not_standby (by rw [modes]; nofun), State.config, table]
    rfl
  rw [State.notified]
  by_cases role : (s.config q).role = .supervisor
  · rw [if_pos (before.2 role)]
    refine (if_pos ((after _ ?_ ?_).2 role)).trans ?_
    iterate 2 rfl
    exact congrArg (fun m => (s.link q).raise (.modeChange m .governing)) mode
  · rw [if_neg (mt before.1 role)]
    refine (if_neg (mt (after _ ?_ ?_).1 role)).trans ?_
    iterate 2 rfl
    exact if_neg (mt before.1 role)

/-- The link of a port after its notices and its LIMIT, told by its parts (R154, R159). -/
theorem State.parts_enqueue_notified (s : State) (ns : List Notice) (q : Port) (l : LinkPort) (m : Message) :
    ((s.notified ns q l).enqueue m).queue = (if l.up = true then intoQueue l.queue m else l.queue) ∧
    (s.notified ns q l).enqueue m = { s.notified ns q l with queue := ((s.notified ns q l).enqueue m).queue } := by
  have up : (s.notified ns q l).up = l.up := by rw [s.notified_frame]
  have queue : (s.notified ns q l).queue = l.queue := by rw [s.notified_frame]
  by_cases standing : l.up = true
  · rw [LinkPort.enqueue_of_up (up.trans standing), if_pos standing, queue]
    exact ⟨rfl, rfl⟩
  · rw [LinkPort.enqueue_of_down (up.trans (eq_false_of_ne_true standing)), if_neg standing]
    exact ⟨queue, rfl⟩

/-- A PRIMING frame, told by whether it seeds the reference (R5, R6). -/
theorem State.primeFrame_at {v : State} (mode : v.mode = .priming) (sweep : v.sweepOrder.Perm (List.finRange 12)) (p : Port) :
    v.primeFrame.record p =
      { v.record p with
        lastSent := if (v.record p).participation = .engaged then some (v.record p).committed else (v.record p).lastSent } ∧
    v.primeFrame.link p =
      let noticed := v.notified (if v.primed v.primingCount = none then [] else [.modeChange .priming .governing]) p (v.link p)
      if (v.record p).participation = .engaged then noticed.enqueue (.limit .keep (v.record p).committed v.frameNumber) else noticed := by
  rcases Option.eq_none_or_eq_some (v.primed v.primingCount) with waits | ⟨power, seeds⟩
  · rw [State.primeFrame_waits waits, if_pos waits, State.notified_nil]
    exact State.emitPriming_at (s := { v with primingCounter := v.primingCount }) sweep p
  · have counted : ({ v with primingCounter := v.primingCount } : State).mode = .priming := mode
    have link := State.link_endPriming counted power p
    obtain ⟨l, ended⟩ := State.endPriming_eq { v with primingCounter := v.primingCount } power
    have order : ({ v with primingCounter := v.primingCount }.endPriming power).sweepOrder.Perm (List.finRange 12) := by
      rw [ended]; exact sweep
    obtain ⟨record, sent⟩ := State.emitPriming_at order p
    have same : ({ v with primingCounter := v.primingCount }.endPriming power).record p = v.record p := by rw [ended]; rfl
    have number : ({ v with primingCounter := v.primingCount }.endPriming power).frameNumber = v.frameNumber := by rw [ended]
    rw [same] at record
    rw [same, number, link] at sent
    rw [State.primeFrame_seeds seeds, seeds, if_neg (Option.some_ne_none power)]
    exact ⟨record, sent⟩

/-- Settles O26: the meter is found by its kind, and the frame sends its KEEPs on the state the seeding, if any, leaves. -/
theorem primingFrameKeepsAndMaySeed : Obligations.PrimingFrameKeepsAndMaySeed := by
  refine ⟨fun s => ⟨fun i kind unique => ?_, fun none => ?_⟩, fun s => ⟨fun stopped => ?_, fun mode running sweep => ?_⟩⟩
  · have meter := State.meter_of_unique kind unique
    exact ⟨meter, by rw [State.measuredPower, meter]⟩
  · have meter := State.meter_of_none none
    exact ⟨meter, by rw [State.measuredPower, meter]⟩
  · exact congrArg Host.Outcome.next (State.expireFrame_of_stopped stopped)
  · have due : s.frameDue = true := (s.frameDue_iff).2 ⟨by rw [mode]; rfl, running⟩
    obtain ⟨o, b, n, r, l, prepared⟩ := s.prepareFrame_eq
    have vmode : s.prepareFrame.mode = .priming := s.mode_prepareFrame.trans mode
    have power : s.prepareFrame.measuredPower = s.measuredPower := State.measuredPower_congr (by rw [prepared])
    have order : s.prepareFrame.sweepOrder.Perm (List.finRange 12) := by rw [prepared]; exact sweep.order
    have site : s.prepareFrame.site = s.site := by rw [prepared]
    have counter : s.prepareFrame.primingCounter = s.primingCounter := by rw [prepared]
    have reference : s.prepareFrame.reference = s.reference := by rw [prepared]
    have frames := State.primeFrame_at vmode order
    refine ⟨s.prepareFrame.primeFrame, ?_, ?_⟩
    · rw [← State.workFrame_priming vmode, ← State.expireFrame_of_due due]
      rfl
    generalize s.prepareFrame = v at *
    intro u count
    have counted : v.primingCount = count := by rw [State.primingCount, site, counter]; rfl
    have primed : v.primed v.primingCount = if count = s.site.primingFrames then s.measuredPower else none := by
      rw [counted, State.primed, site, power]
    have told (p : Port) (ns : List Notice) (same : (if v.primed v.primingCount = none then [] else [Notice.modeChange .priming .governing]) = ns) :
        let engaged : Prop := (v.record p).participation = .engaged
        v.primeFrame.record p = { v.record p with lastSent := if engaged then some (v.record p).committed else (v.record p).lastSent } ∧
        ((v.primeFrame.link p).queue = if engaged ∧ (v.link p).up = true then
            intoQueue (v.link p).queue (.limit .keep (v.record p).committed v.frameNumber) else (v.link p).queue) ∧
        v.primeFrame.link p = { v.notified ns p (v.link p) with queue := (v.primeFrame.link p).queue } := by
      intro engaged
      obtain ⟨record, link⟩ := frames p
      rw [same] at link
      obtain ⟨queue, whole⟩ := v.parts_enqueue_notified ns p (v.link p) (.limit .keep (v.record p).committed v.frameNumber)
      refine ⟨record, ?_⟩
      rw [link]
      by_cases engages : engaged
      · dsimp only
        rw [if_pos engages]
        simp only [engages, true_and]
        exact ⟨queue, whole⟩
      · dsimp only
        rw [if_neg engages, if_neg fun h => engages h.1]
        exact ⟨by rw [v.notified_frame], rfl⟩
    rcases Option.eq_none_or_eq_some (v.primed v.primingCount) with waits | ⟨P, seeds⟩
    · obtain ⟨r, l, eq⟩ := State.primeFrame_eq_of_none waits
      have wmode : v.primeFrame.mode = .priming := by rw [eq]; exact vmode
      refine ⟨by rw [eq]; exact counted, fun P full known => ?_, fun _ => ⟨wmode, by rw [eq]; exact reference, by rw [eq], by rw [eq]⟩, by rw [eq], fun p => ?_⟩
      · rw [primed, if_pos full, known] at waits
        cases waits
      · rw [if_pos wmode]
        exact told p [] (if_pos waits)
    · obtain ⟨r, l, eq⟩ := State.primeFrame_eq_of_some seeds
      have wmode : v.primeFrame.mode ≠ .priming := by rw [eq]; nofun
      refine ⟨by rw [eq]; exact counted, fun P' full known => ?_, fun other => ?_, by rw [eq], fun p => ?_⟩
      · rw [primed, if_pos full, known] at seeds
        obtain rfl := Option.some.inj seeds
        rw [eq]
        exact ⟨rfl, by rw [site], rfl, rfl⟩
      · rw [primed] at seeds
        rcases other with short | unknown
        · rw [if_neg short] at seeds
          cases seeds
        · rw [unknown, ite_self] at seeds
          cases seeds
      · rw [if_neg wmode]
        exact told p [.modeChange .priming .governing] (if_neg (by rw [seeds]; nofun))

end Sys2Proof.Machine
end

section
/-! What a frame makes of records and of pending notices (for O27 to O31). -/

namespace Sys2Proof.Machine

/-! ### The records of a governing frame, before its emission -/

theorem State.record_writeDesired (s : State) (role : Role) (values : List (Port × Int)) (p : Port) :
    (s.writeDesired role values).record p =
      if (s.config p).role = role then { s.record p with desired := lookupPort p values } else s.record p :=
  State.record_mapRecords s _ p

theorem State.record_figured (s : State) (p : Port) : s.figured.record p =
    if (s.config p).role = .storage then { s.readied.record p with desired := lookupPort p s.frameSetpoints } else s.readied.record p := by
  have record : s.figured.record p = ((s.readied.reportStages s.frameStages).splitStorage s.frameNet).record p := rfl
  have config : (s.readied.reportStages s.frameStages).config p = s.config p := by
    obtain ⟨c, e, l, eq⟩ := s.readied.reportStages_eq s.frameStages
    rw [eq]
    rfl
  rw [record, State.splitStorage, State.record_writeDesired, State.record_reportStages, config]
  rfl

theorem State.config_recorded (s : State) (p : Port) : s.recorded.config p = s.config p := by
  obtain ⟨c, e, r, l, figured⟩ := s.figured_eq
  obtain ⟨ring, n, cl, ce, l', recorded⟩ := s.figured.appendRecord_eq s.activeProfile (s.figured.frameRecord s.frameMarks)
  rw [State.recorded, recorded, figured]
  rfl

theorem State.record_recorded (s : State) (p : Port) : s.recorded.record p = s.figured.record p := State.record_appendRecord _ _ _ p

theorem State.record_divided (s : State) (p : Port) : s.divided.record p =
    if (s.config p).role = .cluster then { s.figured.record p with desired := lookupPort p s.frameCeilings } else s.figured.record p := by
  rw [State.divided, State.allocate, State.record_writeDesired, State.record_recorded, State.config_recorded]
  rfl

theorem State.links_figured (s : State) : s.figured.links = (s.readied.reportStages s.frameStages).links := by
  unfold State.figured
  generalize s.frameStages.reference = reference, s.frameTarget = target, s.readied.actualNet s.frameNet = net
  rfl

theorem State.links_divided (s : State) : s.divided.links = s.recorded.links := by
  unfold State.divided
  generalize s.recorded = u
  rfl

/-! ### Pending notices of a kind -/

/-- The pending notices of a kind. -/
def LinkPort.ofKind (k : Nat) (l : LinkPort) : List PendingNotice := l.notices.filter fun e => e.notice.code = k

theorem filter_addNotice_of_other {n : Notice} {k : Nat} (other : n.code ≠ k) (set : List PendingNotice) :
    (addNotice n set).filter (fun e => e.notice.code = k) = set.filter fun e => e.notice.code = k := by
  induction set with
  | nil => simp [addNotice, other]
  | cons e rest ih =>
    unfold addNotice
    split
    · simp [other]
    · split
      case isTrue same => simp [other, ← same]
      case isFalse => simp only [List.filter_cons, ih]

theorem noticed_addNotice (n : Notice) (set : List PendingNotice) : ∃ e ∈ addNotice n set, e.notice = n := by
  induction set with
  | nil => exact ⟨_, List.mem_singleton_self _, rfl⟩
  | cons e rest ih =>
    unfold addNotice
    split
    · exact ⟨_, List.mem_cons_self, rfl⟩
    · split
      · exact ⟨_, List.mem_cons_self, rfl⟩
      · obtain ⟨x, mem, same⟩ := ih
        exact ⟨x, List.mem_cons_of_mem e mem, same⟩

theorem kind_addNotice {n : Notice} {k : Nat} {set : List PendingNotice} (h : ∃ e ∈ set, e.notice.code = k) : ∃ e ∈ addNotice n set, e.notice.code = k := by
  by_cases same : n.code = k
  · obtain ⟨e, mem, noticed⟩ := noticed_addNotice n set
    exact ⟨e, mem, (congrArg Notice.code noticed).trans same⟩
  · obtain ⟨e, mem, kind⟩ := h
    have kept : e ∈ (addNotice n set).filter fun e => e.notice.code = k := by
      rw [filter_addNotice_of_other same]
      exact List.mem_filter.2 ⟨mem, decide_eq_true kind⟩
    exact ⟨e, (List.mem_filter.1 kept).1, kind⟩

/-- After notices are raised at an UP link, each of them has an entry of its kind (R159). -/
theorem kind_foldl_raise {ns : List Notice} {l : LinkPort} (up : l.up = true) {k : Nat}
    (h : (∃ e ∈ l.notices, e.notice.code = k) ∨ ∃ n ∈ ns, n.code = k) : ∃ e ∈ (ns.foldl LinkPort.raise l).notices, e.notice.code = k := by
  induction ns generalizing l with
  | nil => exact h.resolve_right fun ⟨n, mem, _⟩ => nomatch mem
  | cons n ns ih =>
    rw [List.foldl_cons, LinkPort.raise_of_up up]
    refine ih (l := { l with notices := addNotice n l.notices }) up ?_
    rcases h with held | ⟨m, mem, kind⟩
    · exact .inl (kind_addNotice held)
    · rcases List.mem_cons.1 mem with rfl | later
      · obtain ⟨e, mem, noticed⟩ := noticed_addNotice m l.notices
        exact .inl ⟨e, mem, (congrArg Notice.code noticed).trans kind⟩
      · exact .inr ⟨m, later, kind⟩

/-- From `s` to `w` no link comes UP or goes DOWN, and no notice of kind `k` is raised or taken. -/
def State.Quiet (k : Nat) (s w : State) : Prop := ∀ q, (w.link q).up = (s.link q).up ∧ (w.link q).ofKind k = (s.link q).ofKind k

namespace State.Quiet
variable {k : Nat} {s t u : State}

theorem of_links (h : t.links = s.links) : State.Quiet k s t := fun q => by
  have link : t.link q = s.link q := by rw [State.link, h]; rfl
  rw [link]
  exact ⟨rfl, rfl⟩

theorem refl (s : State) : State.Quiet k s s := of_links rfl

theorem trans (h : State.Quiet k s t) (g : State.Quiet k t u) : State.Quiet k s u := fun q => by
  obtain ⟨up, kind⟩ := h q
  obtain ⟨up', kind'⟩ := g q
  exact ⟨up'.trans up, kind'.trans kind⟩

theorem raise (s : State) {n : Notice} (other : n.code ≠ k) : State.Quiet k s (s.raise n) := fun q => by
  rw [State.link_raise]
  split
  · cases up : (s.link q).up with
    | false => rw [LinkPort.raise_of_down up]; exact ⟨up, rfl⟩
    | true => rw [LinkPort.raise_of_up up]; exact ⟨up, filter_addNotice_of_other other _⟩
  · exact ⟨rfl, rfl⟩

theorem enqueue (s : State) (p : Port) (m : Message) : State.Quiet k s (s.enqueue p m) := fun q => by
  rw [State.link_enqueue]
  split
  case isTrue same =>
    rw [same]
    cases up : (s.link p).up with
    | false => rw [LinkPort.enqueue_of_down up]; exact ⟨up, rfl⟩
    | true => rw [LinkPort.enqueue_of_up up]; exact ⟨up, rfl⟩
  case isFalse => exact ⟨rfl, rfl⟩

theorem foldl {α : Type} {f : State → α → State} (hf : ∀ (s : State) a, State.Quiet k s (f s a)) (as : List α) (s : State) : State.Quiet k s (as.foldl f s) := by
  induction as generalizing s with
  | nil => exact refl s
  | cons a as ih => exact (hf s a).trans (ih (f s a))

theorem setRecord (s : State) (p : Port) (r : PortRecord) : State.Quiet k s (s.setRecord p r) := of_links rfl

theorem sendLimit (s : State) (p : Port) (a : LimitAction) (v : Int) : State.Quiet k s (s.sendLimit p a v) := (setRecord s p _).trans (enqueue _ p _)

theorem sendKeep (s : State) (p : Port) : State.Quiet k s (s.sendKeep p) := sendLimit s p _ _

theorem sendLower (s : State) (p : Port) (v : Int) : State.Quiet k s (s.sendLower p v) := sendLimit s p _ _

theorem firstPassAt (s : State) (item : Port × Class) : State.Quiet k s (s.firstPassAt item) := by
  obtain ⟨p, c⟩ := item
  unfold State.firstPassAt
  dsimp only
  split
  case h_1 => exact (setRecord s p _).trans (sendLower _ p _)
  case h_2 =>
    split
    exacts [(setRecord s p _).trans (sendLower _ p _), sendLower s p _]
  case h_3 | h_4 => exact (setRecord s p _).trans (sendLower _ p _)
  case h_5 | h_7 => exact sendKeep s p
  case h_6 => exact refl s
  case h_8 => exact sendLower s p _

theorem grantRaise (s : State) (p : Port) (d : Int) : State.Quiet k s (s.grantRaise p d) := by
  unfold State.grantRaise
  extract_lets g granted
  have sent : State.Quiet k s granted := by
    unfold granted
    split
    exacts [(setRecord s p _).trans (sendLimit _ p _ _), sendKeep s p]
  split
  exacts [sent, sent.trans (setRecord granted p _)]

theorem secondPassAt (s : State) (item : Port × Class) : State.Quiet k s (s.secondPassAt item) := by
  unfold State.secondPassAt
  split
  exacts [grantRaise s item.1 _, refl s]

theorem holdAt (s : State) (p : Port) : State.Quiet k s (s.holdAt p) := by
  unfold State.holdAt
  split
  exacts [refl s, sendLower s p _, sendKeep s p]

theorem primeAt (s : State) (p : Port) : State.Quiet k s (s.primeAt p) := by
  unfold State.primeAt
  split
  exacts [sendKeep s p, refl s]

theorem emitFrame (s : State) : State.Quiet k s s.emitFrame := by
  have fresh : State.Quiet k s s.unstaged := of_links rfl
  exact fresh.trans ((foldl firstPassAt _ _).trans (foldl secondPassAt _ _))

theorem emitPriming (s : State) : State.Quiet k s s.emitPriming := foldl primeAt _ s

theorem emitHeld (s : State) : State.Quiet k s s.emitHeld := foldl holdAt _ s

theorem reportStages (s : State) (st : Stages) (conflict : k ≠ 6) (excursion : k ≠ 5) : State.Quiet k s (s.reportStages st) := by
  unfold State.reportStages
  extract_lets conflicted
  have first : State.Quiet k s conflicted := by
    unfold conflicted
    split
    · exact refl s
    · exact (of_links rfl).trans (raise { s with windowConflicts := _ } conflict.symm)
  split
  · exact first
  · exact first.trans ((of_links rfl).trans (raise { conflicted with excursions := _ } excursion.symm))

theorem appendRecord (s : State) (profile : Profile) (r : FrameRecord) (compliance : k ≠ 7) : State.Quiet k s (s.appendRecord profile r) := by
  have pushed : State.Quiet k s (s.pushRecord r) := of_links rfl
  unfold State.appendRecord State.checkCompliance
  split
  · exact pushed
  · dsimp only
    split
    · exact pushed.trans (of_links rfl)
    · split
      · exact pushed.trans (of_links rfl)
      · exact pushed.trans ((of_links rfl).trans (raise { s.pushRecord r with ring := _, complianceLatched := _, complianceEpisodes := _ } compliance.symm))

theorem primeFrame {s : State} (mode : s.mode = .priming) (change : k ≠ 1) : State.Quiet k s s.primeFrame := by
  rcases Option.eq_none_or_eq_some (s.primed s.primingCount) with waits | ⟨power, seeds⟩
  · rw [State.primeFrame_waits waits]
    exact (of_links rfl).trans (emitPriming { s with primingCounter := s.primingCount })
  · have counted : ({ s with primingCounter := s.primingCount } : State).mode = .priming := mode
    have ended : State.Quiet k { s with primingCounter := s.primingCount } ({ s with primingCounter := s.primingCount }.endPriming power) := fun q => by
      rw [State.link_endPriming counted, ← State.link_raiseAll]
      exact raise { s with primingCounter := s.primingCount } (n := .modeChange .priming .governing) change.symm q
    rw [State.primeFrame_seeds seeds]
    exact (of_links rfl).trans (ended.trans (emitPriming _))

theorem governFrame (s : State) (h : k = 4 ∨ k = 10) : State.Quiet k s s.governFrame := by
  have reported : State.Quiet k s (s.readied.reportStages s.frameStages) :=
    (of_links rfl).trans (reportStages s.readied _ (by omega) (by omega))
  have figured : State.Quiet k s s.figured := reported.trans (of_links s.links_figured)
  have recorded : State.Quiet k s s.recorded := figured.trans (appendRecord _ _ _ (by omega))
  have divided : State.Quiet k s s.divided := recorded.trans (of_links s.links_divided)
  exact divided.trans (emitFrame s.divided)

theorem holdFrame (s : State) (compliance : k ≠ 7) : State.Quiet k s s.holdFrame := by
  unfold State.holdFrame
  extract_lets profile targeted
  have targets : State.Quiet k s targeted := of_links rfl
  exact targets.trans ((appendRecord targeted _ _ compliance).trans (emitHeld _))

/-- The work of the governor raises no PORT_STALE and no LIST_CHANGE. -/
theorem workFrame (s : State) (h : k = 4 ∨ k = 10) : State.Quiet k s s.workFrame := by
  unfold State.workFrame
  split
  case h_1 mode => exact primeFrame mode (by omega)
  case h_2 => exact governFrame s h
  case h_3 => exact holdFrame s (by omega)
  all_goals exact refl s

/-- The list work raises nothing but LIST_CHANGE (R52). -/
theorem updateList (s : State) (list : k ≠ 10) : State.Quiet k s s.updateList := by
  have relisted : State.Quiet k s s.relisted := by
    obtain ⟨b, n, r, eq⟩ := s.relisted_eq
    exact of_links (by rw [eq])
  exact relisted.trans (foldl (fun t (change : ListCause × Port) => raise t (n := .listChange change.1 (some change.2) t.entries.length (activePosition t.entries)) list.symm)
    (tickedChanges s.entries) s.relisted)

/-- A notice of a kind that is pending stays. -/
theorem held (h : State.Quiet k s t) {q : Port} (held : ∃ e ∈ (s.link q).notices, e.notice.code = k) : ∃ e ∈ (t.link q).notices, e.notice.code = k := by
  obtain ⟨e, mem, kind⟩ := held
  have kept : e ∈ (t.link q).ofKind k := by
    rw [(h q).2]
    exact List.mem_filter.2 ⟨mem, decide_eq_true kind⟩
  exact ⟨e, (List.mem_filter.1 kept).1, kind⟩

end State.Quiet

end Sys2Proof.Machine
end

section
/-! The events of the part that are expiries, taken whole (O27, O28, O29). -/

namespace Sys2Proof.Machine

/-! ### The end of PRIMING -/

theorem State.primingEndDue_iff (s : State) : s.primingEndDue = true ↔
    s.mode = .priming ∧ s.frameTimer ≠ .stopped ∧ s.primingCount = s.site.primingFrames ∧ s.measuredPower ≠ none := by
  have primed : (s.primed s.primingCount).isSome = true ↔ s.primingCount = s.site.primingFrames ∧ s.measuredPower ≠ none := by
    rw [State.primed, Option.isSome_iff_ne_none]
    split
    case isTrue full => exact ⟨fun known => ⟨full, known⟩, fun h => h.2⟩
    case isFalse short => exact ⟨fun known => absurd rfl known, fun h => absurd h.1 short⟩
  have due : s.primingEndDue = true ↔ (s.frameDue = true ∧ s.mode = .priming) ∧ (s.primed s.primingCount).isSome = true := by
    rw [State.primingEndDue, Bool.and_eq_true, Bool.and_eq_true, beq_iff_eq]
    rfl
  rw [due, primed, s.frameDue_iff]
  constructor
  · rintro ⟨⟨⟨_, running⟩, mode⟩, full, known⟩
    exact ⟨mode, running, full, known⟩
  · rintro ⟨mode, running, full, known⟩
    exact ⟨⟨⟨by rw [mode]; rfl, running⟩, mode⟩, full, known⟩

theorem exec_primingEnd (s : State) : exec .primingEnd s = .next (if s.primingEndDue then s.expireFrame else s) := rfl

theorem exec_frameExpiry (s : State) : exec .frameExpiry s = .next s.expireFrame := rfl

/-- Settles O27: with the count full and the meter VALID, the expiry is the frame that seeds the reference. -/
theorem primingEndSeedsTheReference : Obligations.PrimingEndSeedsTheReference := by
  refine fun s => ⟨fun power mode running limit full known => ?_, fun early => ?_⟩
  · have due : s.primingEndDue = true := s.primingEndDue_iff.2 ⟨mode, running, full.symm, by rw [known]; nofun⟩
    have expires : s.frameDue = true := s.frameDue_iff.2 ⟨by rw [mode]; rfl, running⟩
    have whole : exec .primingEnd s = exec .frameExpiry s := by rw [exec_primingEnd, if_pos due, exec_frameExpiry]
    obtain ⟨o, b, n, r, l, prepared⟩ := s.prepareFrame_eq
    have vmode : s.prepareFrame.mode = .priming := s.mode_prepareFrame.trans mode
    have number : s.numberFrame.frameNumber = s.frameNumber := by
      rw [State.numberFrame_of_running (by rw [mode]; rfl)]
      exact if_pos mode
    have seeds : s.prepareFrame.primed s.prepareFrame.primingCount = some power := by
      have count : s.prepareFrame.primingCount = s.prepareFrame.site.primingFrames := by rw [prepared]; exact full.symm
      rw [State.primed, if_pos count, State.measuredPower_congr (s := s) (by rw [prepared]), known]
    have up (q : Port) : (s.prepareFrame.link q).up = (s.link q).up := by
      have numbered : State.Quiet 0 s s.numberFrame := .of_links (by rw [State.numberFrame_of_running (by rw [mode]; rfl)])
      rw [State.prepareFrame, ((State.Quiet.updateList (k := 0) _ (by omega)) q).1, State.link_ageRecords, State.notified_frame]
      exact (numbered q).1
    refine ⟨whole, s.prepareFrame.primeFrame, ?_, ?_⟩
    · rw [whole, exec_frameExpiry, State.expireFrame_of_due expires, State.workFrame_priming vmode]
    have config (q : Port) : s.prepareFrame.config q = s.config q := by rw [prepared]; rfl
    obtain ⟨r', l', eq⟩ := State.primeFrame_eq_of_some seeds
    have noticed (q : Port) (role : (s.config q).role = .supervisor) (standing : (s.link q).up = true) :
        ∃ e ∈ (s.prepareFrame.primeFrame.link q).notices, e.notice = .modeChange .priming .governing := by
      rw [← up q] at standing
      rw [← config q] at role
      generalize s.prepareFrame = v at *
      obtain ⟨e, mem, same⟩ := noticed_addNotice (.modeChange .priming .governing) (v.link q).notices
      have counted : ({ v with primingCounter := v.primingCount } : State).mode = .priming := vmode
      have supervises : ({ v with primingCounter := v.primingCount } : State).supervisory q = true :=
        (State.supervisory_iff_of_not_standby (by rw [counted]; nofun) q).2 role
      have raised : e ∈ (({ v with primingCounter := v.primingCount }.endPriming power).link q).ofKind 1 := by
        rw [State.link_endPriming counted, State.notified, if_pos supervises]
        refine List.mem_filter.2 ⟨?_, by rw [same]; rfl⟩
        rw [List.foldl_cons, List.foldl_nil]
        exact (LinkPort.raise_of_up standing _) ▸ mem
      rw [State.primeFrame_seeds seeds]
      have quiet : State.Quiet 1 ({ v with primingCounter := v.primingCount }.endPriming power) _ := State.Quiet.emitPriming _
      rw [← (quiet q).2] at raised
      exact ⟨e, (List.mem_filter.1 raised).1, same⟩
    refine ⟨by rw [eq], ?_, by rw [eq], by rw [eq], by rw [eq, prepared], ?_, by rw [eq, prepared], by rw [eq, prepared], noticed⟩
    · rw [eq, show s.prepareFrame.site = s.site by rw [prepared]]
      exact clamp_eq limit power
    · rw [eq, prepared]
      exact number
  · rw [exec_primingEnd, if_neg fun due => ?_]
    obtain ⟨mode, running, full, known⟩ := s.primingEndDue_iff.1 due
    rcases early with other | stopped | unknown | short
    exacts [other mode, running stopped, known unknown, short full.symm]

/-! ### What the governor leaves of the list -/

theorem State.governFrame_eq_writes (s : State) : ∃ c e ring n cl ce r l, s.governFrame =
    { s with
      sweepStart := s.advanceSweep.sweepStart, sweepLfsr := s.advanceSweep.sweepLfsr
      sweepOrder := sweepOrderOf s.site.sweepMode s.advanceSweep.sweepStart
      reference := s.frameStages.reference, target := s.frameTarget, storageNet := s.readied.actualNet s.frameNet
      windowConflicts := c, excursions := e, ring := ring, sinceBase := n, reseedPending := false
      complianceLatched := cl, complianceEpisodes := ce, records := r, links := l } := by
  obtain ⟨c, e, ring, n, cl, ce, r, l, divided⟩ := s.divided_eq
  obtain ⟨r', l', emitted⟩ := State.exists_of_frame (State.frame_emitFrame s.divided)
  exact ⟨c, e, ring, n, cl, ce, r', l', by rw [s.governFrame_eq, emitted, divided]⟩

/-- The governor leaves the list alone, and the window base but for its seeding to 1 at the end of PRIMING (R6). -/
theorem State.workFrame_list (s : State) : s.workFrame.entries = s.entries ∧
    (s.workFrame.windowBase = s.windowBase ∨ s.mode = .priming ∧ s.workFrame.windowBase = 1) := by
  unfold State.workFrame
  split
  case h_1 mode =>
    rcases Option.eq_none_or_eq_some (s.primed s.primingCount) with waits | ⟨power, seeds⟩
    · obtain ⟨r, l, eq⟩ := State.primeFrame_eq_of_none waits
      rw [eq]
      exact ⟨rfl, .inl rfl⟩
    · obtain ⟨r, l, eq⟩ := State.primeFrame_eq_of_some seeds
      rw [eq]
      exact ⟨rfl, .inr ⟨mode, rfl⟩⟩
  case h_2 =>
    obtain ⟨c, e, ring, n, cl, ce, r, l, eq⟩ := s.governFrame_eq_writes
    rw [eq]
    exact ⟨rfl, .inl rfl⟩
  case h_3 =>
    obtain ⟨tgt, ring, n, cl, ce, r, l, eq⟩ := s.holdFrame_eq
    rw [eq]
    exact ⟨rfl, .inl rfl⟩
  all_goals exact ⟨rfl, .inl rfl⟩

/-! ### Activation and expiry of an entry -/

theorem State.entryDue_iff {s : State} {position : Nat} {e : Entry} (held : s.entries[position - 1]? = some e) (one : 1 ≤ position) (cause : ListCause) :
    s.entryDue position cause = true ↔ s.frameDue = true ∧ e.tick.change = some (cause, e.port) := by
  rw [State.entryDue, entryAt, if_neg (by omega), held]
  simp

theorem Entry.activates_iff (e : Entry) : e.tick.change = some (.activated, e.port) ↔ e.state = .pending ∧ e.frames = 0 := by
  rw [Entry.tick_change]
  by_cases pending : e.state = .pending <;> by_cases zero : e.frames = 0 <;> simp [pending, zero]

theorem Entry.expires_iff (e : Entry) : e.tick.change = some (.expired, e.port) ↔ e.state = .active ∧ e.expiry ≠ 0 ∧ e.frames ≤ 1 := by
  rw [Entry.tick_change]
  cases state : e.state with
  | pending => by_cases zero : e.frames = 0 <;> simp [zero]
  | active => by_cases out : e.expiry ≠ 0 ∧ e.frames ≤ 1 <;> simp [out]

/-- An expiry at which an entry changes: the list is brought up to date, and each supervisor is noticed (R46, R48, R52). -/
theorem State.expireFrame_of_change {s : State} (due : s.frameDue = true) {position : Nat} {e : Entry} (held : s.entries[position - 1]? = some e)
    {change : ListCause × Port} (changes : e.tick.change = some change) :
    ∃ w : State, s.expireFrame = w.settle ∧ w.entries = tickedEntries s.entries ∧
      (∀ q, (s.config q).role = .supervisor → (s.link q).up = true →
        ∃ n ∈ (w.link q).notices, ∃ cause port held active, n.notice = .listChange cause port held active) ∧
      (e.tick.reseed = true → w.windowBase = if s.mode = .priming then 1 else s.frameNumber + 1) := by
  have running := State.frameDue_running due
  have mem := List.mem_of_getElem? held
  obtain ⟨o, b, n, r, l, prepared⟩ := s.prepareFrame_eq
  obtain ⟨entries, base⟩ := s.prepareFrame.workFrame_list
  refine ⟨s.prepareFrame.workFrame, State.expireFrame_of_due due, by rw [entries, prepared], fun q role up => ?_, fun reseeds => ?_⟩
  · have aged : State.Quiet 0 s s.numberFrame.ageRecords := by
      have numbered : State.Quiet 0 s s.numberFrame := .of_links (by rw [State.numberFrame_of_running running])
      refine numbered.trans fun q => ?_
      rw [State.link_ageRecords, ← State.link_raiseAll]
      exact State.Quiet.foldl (k := 0) (fun t n => State.Quiet.raise t (by cases n <;> nofun)) s.numberFrame.orderedStaleNotices s.numberFrame q
    obtain ⟨o', l', agedEq⟩ := s.numberFrame.ageRecords_eq
    have numbered := State.numberFrame_of_running running
    have list : s.numberFrame.ageRecords.entries = s.entries := by rw [agedEq, numbered]
    have supervises : s.numberFrame.ageRecords.supervisory q = true := by
      refine (State.supervisory_iff_of_not_standby (fun standby => ?_) q).2 (by rw [agedEq, numbered]; exact role)
      have mode : s.mode = .standby := by rw [← standby, agedEq, numbered]
      rw [mode] at running
      cases running
    have standing : (s.numberFrame.ageRecords.link q).up = true := ((aged q).1).trans up
    have pending : ∃ n ∈ (s.prepareFrame.link q).notices, n.notice.code = 10 := by
      rw [State.prepareFrame, State.link_updateList, State.notified, if_pos supervises, list]
      refine kind_foldl_raise standing (.inr ?_)
      exact ⟨_, List.mem_map_of_mem (List.mem_filterMap.2 ⟨e, mem, changes⟩), rfl⟩
    obtain ⟨n, listed, kind⟩ := (State.Quiet.workFrame s.prepareFrame (.inr rfl)).held pending
    refine ⟨n, listed, ?_⟩
    cases shape : n.notice with
    | listChange cause port held active => exact ⟨cause, port, held, active, rfl⟩
    | _ => rw [shape] at kind; cases kind
  · have reseeded : s.prepareFrame.windowBase = if s.mode = .priming then 1 else s.frameNumber + 1 := by
      obtain ⟨o', l', agedEq⟩ := s.numberFrame.ageRecords_eq
      have numbered := State.numberFrame_of_running running
      obtain ⟨l'', updated⟩ := s.numberFrame.ageRecords.updateList_relisted
      have some_ : (s.numberFrame.ageRecords.entries.any fun e => e.tick.reseed) = true := by
        rw [agedEq, numbered]
        exact List.any_eq_true.2 ⟨e, mem, reseeds⟩
      rw [State.prepareFrame, updated, State.relisted, if_pos some_]
      have base : (({ s.numberFrame.ageRecords with entries := tickedEntries s.numberFrame.ageRecords.entries } : State).reseed).windowBase =
          if s.numberFrame.ageRecords.mode = .priming then 1 else s.numberFrame.ageRecords.frameNumber := rfl
      have mode : s.numberFrame.ageRecords.mode = s.mode := by rw [agedEq, numbered]
      have number : s.numberFrame.ageRecords.frameNumber = if s.mode = .priming then s.frameNumber else s.frameNumber + 1 := by rw [agedEq, numbered]
      rw [base, mode, number]
      by_cases priming : s.mode = .priming
      · rw [if_pos priming, if_pos priming]
      · rw [if_neg priming, if_neg priming, if_neg priming]
    rcases base with kept | ⟨priming, one⟩
    · rw [kept, reseeded]
    · rw [s.mode_prepareFrame] at priming
      rw [one, if_pos priming]

theorem exec_profileActivation (s : State) (position : Nat) :
    exec (.profileActivation position) s = .next (if s.entryDue position .activated then s.expireFrame else s) := rfl

theorem exec_profileExpiry (s : State) (position : Nat) :
    exec (.profileExpiry position) s = .next (if s.entryDue position .expired then s.expireFrame else s) := rfl

/-- The list once an entry has left it. -/
theorem tickedEntries_of_gone {es : List Entry} {k : Nat} {e : Entry} (held : es[k]? = some e) (gone : e.tick.entry = none) :
    tickedEntries es = tickedEntries (es.take k) ++ tickedEntries (es.drop (k + 1)) := by
  obtain ⟨short, get⟩ := List.getElem?_eq_some_iff.1 held
  have parts : es = es.take k ++ e :: es.drop (k + 1) := by
    rw [← get, List.getElem_cons_drop, List.take_append_drop]
  conv_lhs => rw [parts, tickedEntries, List.filterMap_append, List.filterMap_cons, gone]
  rfl

/-- Settles O28: each event is the expiry at which its entry changes so, and does not occur otherwise. -/
theorem entriesActivateAndExpireAtTheirExpiry : Obligations.EntriesActivateAndExpireAtTheirExpiry := by
  refine ⟨fun s position away => ?_, ?_⟩
  · have none : entryAt s.entries position = none := by
      rw [entryAt]
      split
      · rfl
      · exact List.getElem?_eq_none (by omega)
    have never (cause : ListCause) : s.entryDue position cause = false := by rw [State.entryDue, none, Bool.and_false]
    rw [exec_profileActivation, exec_profileExpiry, never, never]
    exact ⟨rfl, rfl⟩
  · intro s position e one held noticed runs activates expires
    have activation : s.entryDue position .activated = true ↔ runs ∧ activates := by
      rw [State.entryDue_iff held one, s.frameDue_iff, e.activates_iff]
    have expiry : s.entryDue position .expired = true ↔ runs ∧ expires := by
      rw [State.entryDue_iff held one, s.frameDue_iff, e.expires_iff]
    refine ⟨fun run due => ?_, fun run due => ?_, fun run due => ?_, fun run due => ?_, fun never => ?_, fun never => ?_⟩
    · rw [exec_profileActivation, if_pos (activation.2 ⟨run, due⟩), exec_frameExpiry]
    · rw [exec_profileExpiry, if_pos (expiry.2 ⟨run, due⟩), exec_frameExpiry]
    · obtain ⟨w, expired, entries, told, base⟩ := State.expireFrame_of_change (s.frameDue_iff.2 run) held (e.activates_iff.2 due)
      have ticked : e.tick.entry = some { e with state := .active, frames := e.expiry, profile := { e.profile with reseed := false } } := by
        rw [Entry.tick_entry, if_pos due.1, if_pos due.2]
      refine ⟨w, ?_, entries, told, ?_, fun reseeds => base (e.tick_reseed.2 ⟨due.1, due.2, reseeds⟩)⟩
      · rw [exec_profileActivation, if_pos (activation.2 ⟨run, due⟩), expired]
      · rw [entries]
        exact List.mem_filterMap.2 ⟨e, List.mem_of_getElem? held, ticked⟩
    · obtain ⟨w, expired, entries, told, _⟩ := State.expireFrame_of_change (s.frameDue_iff.2 run) held (e.expires_iff.2 due)
      have gone : e.tick.entry = none := by
        rw [Entry.tick_entry, if_neg (by rw [due.1]; nofun), if_neg due.2.1, if_pos due.2.2]
      refine ⟨w, ?_, ?_, told⟩
      · rw [exec_profileExpiry, if_pos (expiry.2 ⟨run, due⟩), expired]
      · rw [entries, tickedEntries_of_gone held gone, Nat.sub_add_cancel one]
    · rw [exec_profileActivation, if_neg (mt activation.1 never)]
    · rw [exec_profileExpiry, if_neg (mt expiry.1 never)]

end Sys2Proof.Machine
end

section
/-! YIELD_TIMEOUT and SILENCE_TIMEOUT (O29). -/

namespace Sys2Proof.Machine

/-! ### A STALE record over the work of the governor -/

/-- `r'` is `r` but for its last-sent value. -/
def PortRecord.Sent (r r' : PortRecord) : Prop := ∃ l, r' = { r with lastSent := l }

theorem PortRecord.Sent.refl (r : PortRecord) : r.Sent r := ⟨r.lastSent, rfl⟩

theorem PortRecord.Sent.trans {a b c : PortRecord} (h : a.Sent b) (k : b.Sent c) : a.Sent c := by
  obtain ⟨l, rfl⟩ := h
  obtain ⟨l', rfl⟩ := k
  exact ⟨l', rfl⟩

theorem State.sent_sendLimit (s : State) (p q : Port) (a : LimitAction) (v : Int) : (s.record q).Sent ((s.sendLimit p a v).record q) := by
  rw [State.record_sendLimit]
  split
  case isTrue same => rw [same]; exact ⟨some v, rfl⟩
  case isFalse => exact .refl _

theorem State.sent_holdAt (s : State) (p q : Port) : (s.record q).Sent ((s.holdAt p).record q) := by
  unfold State.holdAt
  split
  exacts [.refl _, s.sent_sendLimit p q _ _, s.sent_sendLimit p q _ _]

theorem State.sent_primeAt (s : State) (p q : Port) : (s.record q).Sent ((s.primeAt p).record q) := by
  unfold State.primeAt
  split
  exacts [s.sent_sendLimit p q _ _, .refl _]

/-- A relation between records that each step of a walk keeps, the walk keeps. -/
theorem record_foldl {α : Type} {R : PortRecord → PortRecord → Prop} (refl : ∀ r, R r r) (trans : ∀ {a b c}, R a b → R b c → R a c)
    {f : State → α → State} (hf : ∀ (s : State) a q, R (s.record q) ((f s a).record q)) (as : List α) (s : State) (q : Port) :
    R (s.record q) ((as.foldl f s).record q) := by
  induction as generalizing s with
  | nil => exact refl _
  | cons a as ih => exact trans (hf s a q) (ih (f s a))

theorem sent_foldl {f : State → Port → State} (hf : ∀ (s : State) p q, (s.record q).Sent ((f s p).record q)) (ps : List Port) (s : State) (q : Port) :
    (s.record q).Sent ((ps.foldl f s).record q) := record_foldl .refl .trans hf ps s q

/-- A STALE port is sent what stands, and loses its staged raise (R106, R115, R129). -/
theorem State.sent_emitFrame_of_stale {s : State} (sweep : s.sweepOrder.Perm (List.finRange 12)) {p : Port} (stale : (s.record p).participation = .stale) :
    PortRecord.Sent { s.record p with staged := none } (s.emitFrame.record p) := by
  have class_ : (s.unstaged.record p).classify = some .stale := PortRecord.classify_of_stale (by rw [State.record_unstaged]; exact stale)
  rw [(State.emitFrame_of_class sweep class_ nofun).1, ← State.record_unstaged]
  unfold State.firstPassAt
  dsimp only
  cases (s.unstaged.record p).outstanding with
  | none => exact s.unstaged.sent_sendLimit p p _ _
  | some recalled => exact s.unstaged.sent_sendLimit p p _ _

/-- The work of the governor changes nothing of a STALE record but what it was last sent, its desired value, its availabilities and its staged raise. -/
theorem State.record_workFrame_of_stale {s : State} {p : Port} (stale : (s.record p).participation = .stale) :
    ∃ sent desired storage staged, s.workFrame.record p =
      { s.record p with lastSent := sent, desired := desired, storage := storage, staged := staged } ∧ (staged = none ∨ staged = (s.record p).staged) := by
  have only (w : State) (h : (s.record p).Sent (w.record p)) : ∃ sent desired storage staged, w.record p =
      { s.record p with lastSent := sent, desired := desired, storage := storage, staged := staged } ∧ (staged = none ∨ staged = (s.record p).staged) := by
    obtain ⟨l, eq⟩ := h
    exact ⟨l, _, _, _, eq, .inr rfl⟩
  unfold State.workFrame
  split
  case h_1 =>
    refine only _ ?_
    rcases Option.eq_none_or_eq_some (s.primed s.primingCount) with waits | ⟨power, seeds⟩
    · rw [State.primeFrame_waits waits]
      exact sent_foldl State.sent_primeAt _ { s with primingCounter := s.primingCount } p
    · obtain ⟨l, ended⟩ := State.endPriming_eq { s with primingCounter := s.primingCount } power
      rw [State.primeFrame_seeds seeds, ended]
      exact sent_foldl State.sent_primeAt _ { s with
        primingCounter := s.primingCount, mode := .governing, reference := _, windowBase := 1, sinceBase := 0, links := l } p
  case h_2 =>
    have divided : ∃ desired storage, s.divided.record p = { s.record p with desired := desired, storage := storage } := by
      rw [s.record_divided, s.record_figured, s.record_readied]
      split <;> split <;> split <;> exact ⟨_, _, rfl⟩
    obtain ⟨desired, storage, record⟩ := divided
    obtain ⟨l, emitted⟩ := State.sent_emitFrame_of_stale s.sweepOrder_divided (p := p) (by rw [record]; exact stale)
    rw [record] at emitted
    rw [s.governFrame_eq]
    exact ⟨l, desired, storage, none, emitted, .inl rfl⟩
  case h_3 =>
    refine only _ ?_
    unfold State.holdFrame
    extract_lets profile targeted
    obtain ⟨ring, n, cl, ce, l, appended⟩ := targeted.appendRecord_eq profile (targeted.frameRecord { Marks.empty with hold := true })
    have sent := sent_foldl State.sent_holdAt s.sweepOrder (targeted.appendRecord profile (targeted.frameRecord { Marks.empty with hold := true })) p
    rw [State.record_appendRecord] at sent
    rw [State.emitHeld, show (targeted.appendRecord profile (targeted.frameRecord { Marks.empty with hold := true })).sweepOrder = s.sweepOrder by
      rw [appended]]
    exact sent
  all_goals exact only _ (.refl _)

/-! ### The timeouts -/

theorem State.staleDue_iff {s : State} (p : Port) (cause : StaleCause) : s.staleDue p cause = true ↔
    s.frameDue = true ∧ (match cause with | .yieldTimeout => s.timesOutAt p | .silence => s.fallsSilentAt p) = true := by
  rw [State.staleDue, Bool.and_eq_true]
  refine and_congr_right fun due => ?_
  rw [State.notices_aged (State.frameDue_running due), State.portStaleEntries]
  cases cause <;> by_cases out : s.timesOutAt p = true <;> by_cases silent : s.fallsSilentAt p = true <;> simp [out, silent]

theorem exec_yieldTimeout (s : State) (p : Port) : exec (.yieldTimeout p) s = .next (if s.staleDue p .yieldTimeout then s.expireFrame else s) := rfl

theorem exec_silenceTimeout (s : State) (p : Port) : exec (.silenceTimeout p) s = .next (if s.staleDue p .silence then s.expireFrame else s) := rfl

theorem State.record_prepareFrame (s : State) (p : Port) : s.prepareFrame.record p = (s.numberFrame.aged p).1 := by
  obtain ⟨o, b, n, r, l, prepared⟩ := s.prepareFrame_eq
  have record : s.prepareFrame.record p = (s.mapRecords fun p _ => (s.numberFrame.aged p).1).record p := by
    rw [prepared]
    rfl
  rw [record]
  exact State.record_mapRecords s (fun p _ => (s.numberFrame.aged p).1) p

/-- The PORT_STALE notices of an expiry at a link: those of the entries into STALE, and nothing else of that kind (R131). -/
theorem State.portStale_expireFrame {s : State} (running : s.mode.running = true) (q : Port) :
    (s.prepareFrame.workFrame.link q).ofKind 4 = (s.notified s.numberFrame.orderedStaleNotices q (s.link q)).ofKind 4 ∧
    (s.prepareFrame.workFrame.link q).up = (s.link q).up := by
  have numbered := State.numberFrame_of_running running
  have aged : s.numberFrame.ageRecords.link q = s.notified s.numberFrame.orderedStaleNotices q (s.link q) := by
    have standing : s.numberFrame.supervisory q = s.supervisory q := State.supervisory_congr (by rw [numbered]) (by rw [numbered]) q
    have link : s.numberFrame.link q = s.link q := by rw [numbered]; rfl
    rw [State.link_ageRecords, link, State.notified, standing]
    rfl
  have quiet : State.Quiet 4 s.numberFrame.ageRecords s.prepareFrame.workFrame :=
    (State.Quiet.updateList s.numberFrame.ageRecords (by omega)).trans (State.Quiet.workFrame s.prepareFrame (.inl rfl))
  obtain ⟨up, kind⟩ := quiet q
  rw [aged] at up kind
  exact ⟨kind, up.trans (by rw [State.notified_frame])⟩

/-- A port's entry into STALE is noticed at each UP link of a supervisor (R131). -/
theorem State.portStale_pending {s : State} (running : s.mode.running = true) {p : Port} (enters : s.portStaleEntries p ≠ []) {q : Port}
    (role : (s.config q).role = .supervisor) (up : (s.link q).up = true) :
    ∃ n ∈ (s.prepareFrame.workFrame.link q).notices, ∃ port cause committed, n.notice = .portStale port cause committed := by
  have supervises : s.supervisory q = true :=
    (State.supervisory_iff_of_not_standby (fun standby => by rw [standby] at running; cases running) q).2 role
  obtain ⟨n, mem⟩ := List.exists_mem_of_ne_nil _ enters
  have kind : n.code = 4 := by
    rw [State.portStaleEntries] at mem
    rcases List.mem_append.1 mem with mem | mem
    all_goals
      split at mem
      · rw [List.mem_singleton.1 mem]; rfl
      · cases mem
  obtain ⟨e, raised, same⟩ := kind_foldl_raise up (k := 4) (.inr ⟨n, ((State.staleNotices_ordered running).2 p).mem mem, kind⟩)
  have held : e ∈ (s.prepareFrame.workFrame.link q).ofKind 4 := by
    rw [(State.portStale_expireFrame running q).1, State.notified, if_pos supervises]
    exact List.mem_filter.2 ⟨raised, decide_eq_true same⟩
  refine ⟨e, (List.mem_filter.1 held).1, ?_⟩
  cases shape : e.notice with
  | portStale port cause committed => exact ⟨port, cause, committed, rfl⟩
  | _ => rw [shape] at same; cases same

/-- A port that enters STALE at an expiry, as the frame leaves it (R81, R113, R121). -/
theorem State.record_expireFrame {s : State} {p : Port} {cause : StaleCause}
    (stale : (s.numberFrame.aged p).1.participation = .stale ∧ (s.numberFrame.aged p).1.cause = some cause) :
    let r := s.prepareFrame.workFrame.record p
    let a := (s.numberFrame.aged p).1
    r.participation = .stale ∧ r.cause = some cause ∧ r.outstanding = a.outstanding ∧ r.recallTimeouts = a.recallTimeouts ∧
      r.committed = a.committed ∧ r.silence = a.silence ∧ (a.staged = none → r.staged = none) := by
  intro r a
  have record := s.record_prepareFrame p
  obtain ⟨sent, desired, storage, staged, eq, none⟩ := State.record_workFrame_of_stale (s := s.prepareFrame) (p := p) (by rw [record]; exact stale.1)
  rw [record] at eq none
  rw [show r = _ from eq]
  exact ⟨stale.1, stale.2, rfl, rfl, rfl, rfl, fun unstaged => none.elim id fun same => same.trans unstaged⟩

/-- Settles O29: each event is the expiry at which its port enters STALE so, and does not occur otherwise. -/
theorem timeoutsMakeThePortStale : Obligations.TimeoutsMakeThePortStale := by
  intro s p r count runs silent timedOut ofKind noticed
  have times : s.timesOutAt p = true ↔ timedOut := s.timesOutAt_iff p
  have falls : s.fallsSilentAt p = true ↔ silent := s.fallsSilentAt_iff p
  have yields : s.staleDue p .yieldTimeout = true ↔ runs ∧ timedOut := by
    rw [State.staleDue_iff, s.frameDue_iff, times]
  have silences : s.staleDue p .silence = true ↔ runs ∧ silent := by
    rw [State.staleDue_iff, s.frameDue_iff, falls]
  have whole (run : runs) : s.expireFrame = s.prepareFrame.workFrame.settle := State.expireFrame_of_due (s.frameDue_iff.2 run)
  have told (run : runs) (enters : s.portStaleEntries p ≠ []) : noticed s.prepareFrame.workFrame :=
    ⟨⟨_, State.staleNotices_ordered run.1, fun q => (State.portStale_expireFrame run.1 q).1⟩, fun q role up => State.portStale_pending run.1 enters role up⟩
  refine ⟨fun run due => ?_, fun run due => ?_, fun run due => ?_, fun run due => ?_, fun never => ?_, fun never => ?_⟩
  · rw [exec_yieldTimeout, if_pos (yields.2 ⟨run, due⟩), exec_frameExpiry]
  · rw [exec_silenceTimeout, if_pos (silences.2 ⟨run, due⟩), exec_frameExpiry]
  · refine ⟨s.prepareFrame.workFrame, by rw [exec_yieldTimeout, if_pos (yields.2 ⟨run, due⟩), whole run], told run ?_, ?_⟩
    · rw [State.portStaleEntries, if_pos (times.2 due)]
      nofun
    have timeouts : (r.timedOut (s.config p)).recallTimeouts = r.recallTimeouts + if r.recallTimeouts < 65535 then 1 else 0 := advance_eq _
    by_cases quiet : silent
    · have aged := State.aged_numberFrame run.1 p
      dsimp only at aged
      rw [if_pos (times.2 due), if_pos (falls.2 quiet)] at aged
      have fst := congrArg Prod.fst aged
      obtain ⟨participation, cause, outstanding, recallTimeouts, committed, _, _⟩ := State.record_expireFrame (p := p) (cause := .silence)
        (by rw [fst]; exact ⟨rfl, rfl⟩)
      rw [fst] at outstanding recallTimeouts committed
      refine ⟨participation, outstanding, recallTimeouts.trans timeouts, fun _ => ⟨cause, ?_⟩, fun heard => absurd quiet heard⟩
      exact committed.trans (s.silentValue_timedOut p)
    · have aged := State.aged_numberFrame run.1 p
      dsimp only at aged
      rw [if_pos (times.2 due), if_neg (mt falls.1 quiet)] at aged
      have fst := congrArg Prod.fst aged
      obtain ⟨participation, cause, outstanding, recallTimeouts, committed, _, _⟩ := State.record_expireFrame (p := p) (cause := .yieldTimeout)
        (by rw [fst]; exact ⟨rfl, rfl⟩)
      rw [fst] at outstanding recallTimeouts committed
      exact ⟨participation, outstanding, recallTimeouts.trans timeouts, fun falls => absurd falls quiet, fun _ => ⟨cause, committed⟩⟩
  · refine ⟨s.prepareFrame.workFrame, by rw [exec_silenceTimeout, if_pos (silences.2 ⟨run, due⟩), whole run], told run ?_, ?_⟩
    · rw [State.portStaleEntries, if_pos (falls.2 due)]
      exact List.append_ne_nil_of_right_ne_nil _ (List.cons_ne_nil _ _)
    have aged := State.aged_numberFrame run.1 p
    dsimp only at aged
    rw [if_pos (falls.2 due)] at aged
    have fst := congrArg Prod.fst aged
    obtain ⟨participation, cause, outstanding, _, committed, silence, staged⟩ := State.record_expireFrame (p := p) (cause := .silence)
      (by rw [fst]; exact ⟨rfl, rfl⟩)
    rw [fst] at outstanding committed silence staged
    refine ⟨participation, outstanding.trans ?_, staged rfl, cause, silence, committed.trans ?_⟩
    · by_cases out : s.timesOutAt p = true
      · rw [if_pos out]; rfl
      · rw [if_neg out]; rfl
    · by_cases out : s.timesOutAt p = true
      · rw [if_pos out]
        exact s.silentValue_timedOut p
      · rw [if_neg out]
        exact congrArg (max r.committed) (s.config_rest p)
  · rw [exec_yieldTimeout, if_neg (mt yields.1 never)]
  · rw [exec_silenceTimeout, if_neg (mt silences.1 never)]

end Sys2Proof.Machine
end

section
/-! The held frame (O31). -/

namespace Sys2Proof.Machine

/-! ### What an expiry's preparation keeps -/

/-- What stands as before when the governor reads its inputs (R3, R49, R113, R114). -/
structure State.Prepared (s v : State) : Prop where
  mode : v.mode = s.mode
  site : v.site = s.site
  config : ∀ p, v.config p = s.config p
  channel : ∀ c, v.channel c = s.channel c
  reference : v.reference = s.reference
  storageNet : v.storageNet = s.storageNet
  windowConflicts : v.windowConflicts = s.windowConflicts
  excursions : v.excursions = s.excursions
  latched : v.complianceLatched = s.complianceLatched
  measured : v.measuredPower = s.measuredPower
  sweepStart : v.sweepStart = s.sweepStart
  sweepLfsr : v.sweepLfsr = s.sweepLfsr
  sweepOrder : v.sweepOrder = s.sweepOrder

theorem State.prepared (s : State) : s.Prepared s.prepareFrame := by
  obtain ⟨o, b, n, r, l, eq⟩ := s.prepareFrame_eq
  have channels : s.prepareFrame.channels = s.channels := by rw [eq]
  refine ⟨?_, ?_, fun p => ?_, fun c => ?_, ?_, ?_, ?_, ?_, ?_, State.measuredPower_congr channels, ?_, ?_, ?_⟩
  all_goals rw [eq]
  all_goals rfl

theorem State.frameNumber_prepareFrame {s : State} (mode : s.mode = .governing ∨ s.mode = .holding) : s.prepareFrame.frameNumber = s.frameNumber + 1 := by
  obtain ⟨o, b, n, r, l, eq⟩ := s.prepareFrame_eq
  have running : s.mode.running = true := by rcases mode with mode | mode <;> rw [mode] <;> rfl
  have other : s.mode ≠ .priming := by rcases mode with mode | mode <;> rw [mode] <;> nofun
  have number : s.numberFrame.frameNumber = s.frameNumber + 1 := by
    rw [State.numberFrame_of_running running]
    exact if_neg other
  rw [eq]
  exact number

section OfFrame
variable {s t : State} (h : t.frame = s.frame)
include h

theorem State.target_of_frame : t.target = s.target := (congrArg State.target h :)
theorem State.windowConflicts_of_frame : t.windowConflicts = s.windowConflicts := (congrArg State.windowConflicts h :)
theorem State.excursions_of_frame : t.excursions = s.excursions := (congrArg State.excursions h :)
theorem State.reseedPending_of_frame : t.reseedPending = s.reseedPending := (congrArg State.reseedPending h :)
theorem State.complianceLatched_of_frame : t.complianceLatched = s.complianceLatched := (congrArg State.complianceLatched h :)
theorem State.complianceEpisodes_of_frame : t.complianceEpisodes = s.complianceEpisodes := (congrArg State.complianceEpisodes h :)

end OfFrame

/-! ### The target -/

/-- The ratio of a cluster's leading channel, where the profile anticipates (R9). -/
theorem State.leadRatio_eq (s : State) (profile : Profile) (p : Port) : s.leadRatio profile p =
    if profile.anticipate = true then
      match (s.config p).lead with
      | some c => if (s.channel c).state = .valid then (s.channel c).ratio else 256
      | none => 256
    else 256 := by
  rw [State.leadRatio]
  cases (s.config p).lead <;> rfl

theorem State.leadRatio_prepared {s v : State} (h : s.Prepared v) (profile : Profile) (p : Port) : v.leadRatio profile p = s.leadRatio profile p := by
  rw [State.leadRatio, State.leadRatio, h.config]
  simp only [h.channel]

/-- The figure of a cluster by its participation, and 0 for any other port (R8). -/
theorem State.targetFigure_eq (s : State) (profile : Profile) (p : Port) : s.targetFigure profile p =
    if (s.config p).role = .cluster then
      match (s.record p).participation with
      | .engaged | .recalling => (s.record p).cluster.available * s.leadRatio profile p / 256
      | .stale => (s.record p).cluster.output
      | .absent => (s.config p).fallback
    else 0 := by
  rw [State.targetFigure, State.isCluster]
  simp only [beq_iff_eq]
  rfl

theorem State.targetPower_eq (s : State) (profile : Profile) : s.targetPower profile = min s.site.exportLimit (∑ p, s.targetFigure profile p) := by
  rw [State.targetPower, portSum_eq_sum]

/-! ### The append, told by its parts -/

/-- The record in the ring, its marks, and the notice that an episode's first failure raises (R28, R34, R35). -/
theorem State.appendRecord_told (s : State) (profile : Profile) (r : FrameRecord) : ∃ (c : Bool) (ns : List Notice),
    (s.appendRecord profile r).ring = ({ s.marked r with marks := { (s.marked r).marks with compliance := c } } :: s.ring).take 600 ∧
    (ns = [] ∨ ∃ excess, ns = [.compliance excess]) ∧
    (ns ≠ [] ↔ (s.appendRecord profile r).complianceLatched = true ∧ s.complianceLatched = false) ∧
    ∀ q, (s.appendRecord profile r).link q = s.notified ns q (s.link q) := by
  have pushed := s.pushRecord_eq r
  rcases Option.eq_none_or_eq_some r.measured with measured | ⟨P, measured⟩
  · rw [State.appendRecord_of_unmeasured measured, pushed]
    refine ⟨(s.marked r).marks.compliance, [], rfl, .inl rfl, ⟨fun h => absurd rfl h, fun ⟨on, off⟩ => ?_⟩, fun q => (s.notified_nil q _).symm⟩
    exact nomatch on.symm.trans off
  · rcases Option.eq_none_or_eq_some (complianceExcess profile s.site.tolerance P (s.exportsAfter profile r)) with passes | ⟨excess, fails⟩
    · rw [State.appendRecord_of_pass measured passes, pushed]
      exact ⟨(s.marked r).marks.compliance, [], rfl, .inl rfl, ⟨fun h => absurd rfl h, fun h => nomatch h.1⟩, fun q => (s.notified_nil q _).symm⟩
    · rw [State.appendRecord_of_failure measured fails, pushed]
      split
      case isTrue on =>
        refine ⟨true, [], rfl, .inl rfl, ⟨fun h => absurd rfl h, fun ⟨_, off⟩ => nomatch on.symm.trans off⟩, fun q => (s.notified_nil q _).symm⟩
      case isFalse off =>
        refine ⟨true, [.compliance excess], rfl, .inr ⟨excess, rfl⟩, ⟨fun _ => ⟨rfl, eq_false_of_ne_true off⟩, fun _ => List.cons_ne_nil _ _⟩, fun q => ?_⟩
        rw [State.link_raise]
        rfl

/-! ### The emission of a held frame -/

/-- What a held frame sends a port: nothing to an ABSENT one, LOWER at its recall, and else KEEP (R118). -/
def PortRecord.heldLimit (r : PortRecord) : Option (LimitAction × Int) :=
  if r.participation = .absent then none
  else some (match r.outstanding with
    | some u => (.lower, u.value)
    | none => (.keep, r.committed))

theorem State.holdAt_eq (s : State) (p : Port) : s.holdAt p =
    match (s.record p).heldLimit with
    | none => s
    | some (action, value) => s.sendLimit p action value := by
  unfold State.holdAt PortRecord.heldLimit
  cases participation : (s.record p).participation <;> cases recalled : (s.record p).outstanding <;> rfl

theorem State.emitHeld_at {s : State} (sweep : s.sweepOrder.Perm (List.finRange 12)) (p : Port) :
    s.emitHeld.record p =
      { s.record p with
        lastSent := if (s.record p).participation = .absent then (s.record p).lastSent else (s.record p).heldLimit.map Prod.snd } ∧
    s.emitHeld.link p =
      match (s.record p).heldLimit with
      | none => s.link p
      | some (action, value) => (s.link p).enqueue (.limit action value s.frameNumber) := by
  refine foldl_own State.WrittenAt.holdAt (sweep_nodup sweep) (sweep_mem sweep p) s fun u frame record link => ?_
  rw [State.holdAt_eq, record]
  by_cases absent : (s.record p).participation = .absent
  · have silent : (s.record p).heldLimit = none := if_pos absent
    rw [silent, if_pos absent, record, link]
    exact ⟨rfl, rfl⟩
  · obtain ⟨⟨action, value⟩, sent⟩ : ∃ limit, (s.record p).heldLimit = some limit := ⟨_, if_neg absent⟩
    rw [sent, if_neg absent]
    dsimp only
    rw [State.record_sendLimit, State.link_sendLimit, if_pos rfl, if_pos rfl, record, link, State.frameNumber_of_frame frame]
    exact ⟨rfl, rfl⟩

/-- Settles O31: the held frame is an append, and what each port is sent afterwards. -/
theorem heldFrameKeepsTheReference : Obligations.HeldFrameKeepsTheReference := by
  intro s mode running sweep
  have due : s.frameDue = true := s.frameDue_iff.2 ⟨by rw [mode]; rfl, running⟩
  have number := State.frameNumber_prepareFrame (.inr mode)
  have same := s.prepared
  have expired : exec .frameExpiry s = .next s.prepareFrame.holdFrame.settle := by
    rw [exec_frameExpiry, State.expireFrame_of_due due, State.workFrame, same.mode, mode]
  refine ⟨s.prepareFrame.holdFrame, expired, ?_⟩
  generalize s.prepareFrame = v at *
  intro v'
  obtain ⟨tgt, ring, n, cl, ce, r, l, eq⟩ := v.holdFrame_eq
  have rest : v.holdFrame = { v with
      target := v.holdFrame.target, ring := v.holdFrame.ring, sinceBase := v.holdFrame.sinceBase, reseedPending := v.holdFrame.reseedPending
      complianceLatched := v.holdFrame.complianceLatched, complianceEpisodes := v.holdFrame.complianceEpisodes
      records := v.holdFrame.records, links := v.holdFrame.links } := by rw [eq]
  let appended : State := { v with target := v.targetPower v.activeProfile }.appendRecord v.activeProfile
    ⟨s.frameNumber + 1, s.reference, v.targetPower v.activeProfile, s.measuredPower, s.storageNet, ⟨false, false, true, false, false⟩⟩
  have emitted : v.holdFrame = appended.emitHeld := by
    have record : ({ v with target := v.targetPower v.activeProfile } : State).frameRecord { Marks.empty with hold := true } =
        ⟨s.frameNumber + 1, s.reference, v.targetPower v.activeProfile, s.measuredPower, s.storageNet, ⟨false, false, true, false, false⟩⟩ := by
      rw [← number, ← same.reference, ← same.measured, ← same.storageNet]
      rfl
    rw [State.holdFrame]
    dsimp only
    rw [record]
  obtain ⟨ring', n', cl', ce', l', appendedEq⟩ := State.appendRecord_eq { v with target := v.targetPower v.activeProfile } v.activeProfile
    ⟨s.frameNumber + 1, s.reference, v.targetPower v.activeProfile, s.measuredPower, s.storageNet, ⟨false, false, true, false, false⟩⟩
  have frame : v.holdFrame.frame = appended.frame := by rw [emitted]; exact State.frame_emitHeld _
  have target : v.holdFrame.target = v.targetPower v.activeProfile := by
    rw [State.target_of_frame frame, show appended = _ from appendedEq]
  obtain ⟨c, ns, ringTold, _, _, links⟩ := State.appendRecord_told { v with target := v.targetPower v.activeProfile } v.activeProfile
    ⟨s.frameNumber + 1, s.reference, v.targetPower v.activeProfile, s.measuredPower, s.storageNet, ⟨false, false, true, false, false⟩⟩
  have standing : appended.sweepOrder.Perm (List.finRange 12) := by
    rw [show appended = _ from appendedEq]
    show v.sweepOrder.Perm _
    rw [same.sweepOrder]
    exact sweep.order
  have sent := State.emitHeld_at standing
  rw [← emitted] at sent
  have record (p : Port) : appended.record p = v.record p := State.record_appendRecord _ _ _ p
  have frameNumber : appended.frameNumber = s.frameNumber + 1 := by
    rw [show appended = _ from appendedEq]
    exact number
  refine ⟨by rw [eq]; exact same.mode.trans mode, by rw [eq]; exact number, by rw [eq]; exact same.reference, by rw [eq]; exact same.storageNet, target, ?_,
    by rw [eq]; exact same.excursions, by rw [eq]; exact same.windowConflicts, ?_, ?_⟩
  · intro cluster ratio figure
    have figures (p : Port) : v.targetFigure v.activeProfile p = if cluster p then figure p else 0 := by
      have ratios : v.leadRatio v.activeProfile p = ratio p := (State.leadRatio_prepared same _ p).trans (State.leadRatio_eq s _ p)
      refine (v.targetFigure_eq _ p).trans (if_congr (by rw [same.config]) ?_ rfl)
      exact congrArg₂ (fun (x y : Int) => match (v.record p).participation with
        | .engaged | .recalling => (v.record p).cluster.available * x / 256
        | .stale => (v.record p).cluster.output
        | .absent => y) ratios (congrArg PortConfig.fallback (same.config p))
    rw [target, State.targetPower_eq, same.site, Finset.sum_congr rfl fun p _ => figures p]
  · refine ⟨_, (State.ring_of_frame frame).trans ringTold, rfl, rfl, target.symm, rfl, rfl, rfl, ?_, rfl, rfl⟩
    exact Bool.false_or _
  · intro a
    have whole : a = appended := by
      show State.appendRecord { v with target := v.holdFrame.target } v.activeProfile
        ⟨s.frameNumber + 1, s.reference, v.holdFrame.target, s.measuredPower, s.storageNet, ⟨false, false, true, false, false⟩⟩ = _
      rw [target]
    rw [whole]
    refine ⟨State.ring_of_frame frame, State.sinceBase_of_frame frame, State.reseedPending_of_frame frame, State.complianceLatched_of_frame frame,
      State.complianceEpisodes_of_frame frame, fun p => ?_, rest⟩
    obtain ⟨recordSent, linkSent⟩ := sent p
    rw [record p] at recordSent linkSent
    rw [frameNumber] at linkSent
    intro r' limit
    have limits : limit = (v.record p).heldLimit := rfl
    rw [limits]
    have link : appended.link p = v.notified ns p (v.link p) := links p
    refine ⟨recordSent, ?_, ?_⟩
    · rw [linkSent]
      cases (v.record p).heldLimit <;> rfl
    · rw [linkSent, link]
      cases (v.record p).heldLimit with
      | none =>
        show (v.notified ns p (v.link p)).queue = (v.link p).queue
        rw [v.notified_frame]
      | some pair => exact (v.parts_enqueue_notified ns p (v.link p) _).1

end Sys2Proof.Machine
end

section
/-! The figures of a governing frame (for O30). -/

namespace Sys2Proof.Machine

/-! ### States whose figures are the same -/

/-- `t` has the figures that the target, the unsteered power and the fixed storage of `v` are formed from. -/
structure State.FiguresOf (v t : State) : Prop where
  site : t.site = v.site
  config : ∀ p, t.config p = v.config p
  channel : ∀ c, t.channel c = v.channel c
  participation : ∀ p, (t.record p).participation = (v.record p).participation
  committed : ∀ p, (t.record p).committed = (v.record p).committed
  cluster : ∀ p, (t.record p).cluster = (v.record p).cluster

section FiguresOf
variable {v t : State} (h : v.FiguresOf t)
include h

theorem State.FiguresOf.active (p : Port) : (t.record p).active = (v.record p).active := by
  rw [PortRecord.active, h.participation]
  rfl

theorem State.FiguresOf.forecast (profile : Profile) (p : Port) : t.forecast profile p = v.forecast profile p := by
  have ratio : t.leadRatio profile p = v.leadRatio profile p := by
    rw [State.leadRatio, State.leadRatio, h.config]
    simp only [h.channel]
  rw [State.forecast, State.forecast, ratio, h.cluster]

theorem State.FiguresOf.targetFigure (profile : Profile) (p : Port) : t.targetFigure profile p = v.targetFigure profile p := by
  rw [State.targetFigure, State.targetFigure, State.isCluster, State.isCluster, h.config, h.participation, h.cluster, h.forecast]

theorem State.FiguresOf.targetPower (profile : Profile) : t.targetPower profile = v.targetPower profile := by
  rw [State.targetPower, State.targetPower, h.site, funext (h.targetFigure profile)]

theorem State.FiguresOf.unsteeredFigure (profile : Profile) : t.unsteeredFigure profile = v.unsteeredFigure profile := by
  unfold State.unsteeredFigure
  simp only [h.active, h.targetFigure]

theorem State.FiguresOf.fixedStorage : t.fixedStorage = v.fixedStorage := by
  unfold State.fixedStorage
  simp only [h.config, h.participation, h.committed]

theorem State.FiguresOf.activeStorage (p : Port) : t.activeStorage p = v.activeStorage p := by
  rw [State.activeStorage, h.config, h.active]
  rfl

theorem State.FiguresOf.activeSet (profile : Profile) : t.activeSet profile =
    (t.sweepOrder.filter fun p => v.isCluster p && (v.record p).active).map fun p =>
      { port := p, forecast := v.forecast profile p, rated := (v.config p).rated } := by
  unfold State.activeSet State.isCluster
  simp only [h.config, h.active, h.forecast]

end FiguresOf

/-! ### The figures of the frame -/

section Governing
variable (v : State)

/-- A storage report with its availabilities formed (R78, R79). -/
def State.formed (p : Port) : StorageReport :=
  { (v.record p).storage with
    dischargeAvailability := dischargeAvailability (v.config p) (v.record p).storage
    chargeAvailability := chargeAvailability (v.config p) (v.record p).storage }

theorem State.figures_readied : v.FiguresOf v.readied where
  site := rfl
  config := fun _ => rfl
  channel := fun _ => rfl
  participation := fun p => by rw [v.record_readied]; split <;> rfl
  committed := fun p => by rw [v.record_readied]; split <;> rfl
  cluster := fun p => by rw [v.record_readied]; split <;> rfl

theorem State.figures_recorded : v.FiguresOf v.recorded where
  site := by
    obtain ⟨c, e, r, l, figured⟩ := v.figured_eq
    obtain ⟨ring, n, cl, ce, l', recorded⟩ := v.figured.appendRecord_eq v.activeProfile (v.figured.frameRecord v.frameMarks)
    rw [State.recorded, recorded, figured]
  config := v.config_recorded
  channel := v.channel_recorded
  participation := fun p => by rw [v.record_recorded, v.record_figured, v.record_readied]; split <;> split <;> rfl
  committed := fun p => by rw [v.record_recorded, v.record_figured, v.record_readied]; split <;> split <;> rfl
  cluster := fun p => by rw [v.record_recorded, v.record_figured, v.record_readied]; split <;> split <;> rfl

theorem State.storageSum_readied (f : StorageReport → Int) : v.readied.storageSum f = ∑ p, if v.activeStorage p = true then f (v.formed p) else 0 := by
  rw [State.storageSum, portSum_eq_sum]
  refine Finset.sum_congr rfl fun p _ => ?_
  rw [v.activeStorage_readied, v.record_readied]
  by_cases active : v.activeStorage p = true
  · rw [if_pos active, if_pos active, if_pos active]
    rfl
  · rw [if_neg active, if_neg active]

theorem State.frameTarget_eq : v.frameTarget = v.targetPower v.activeProfile := v.figures_readied.targetPower _

theorem State.frameStages_eq : v.frameStages =
    stages v.activeProfile v.site.exportLimit v.reference v.frameTarget v.readied.greatestDischarge (v.windowMin v.activeProfile.window)
      (v.windowMax v.activeProfile.window) := rfl

theorem State.frameNet_eq : v.frameNet = storageNetTarget v.activeProfile v.frameStages.reference v.frameTarget
    (v.readied.storageSum StorageReport.soe) (v.readied.storageSum StorageReport.capacity) v.readied.engagedCharge := rfl

theorem State.members_readied (f : StorageReport → Int) : v.readied.storageMembers f =
    (v.readied.sweepOrder.filter v.activeStorage).map fun p => (p, f (v.formed p)) := by
  rw [State.storageMembers, funext v.activeStorage_readied]
  refine List.map_congr_left fun p mem => ?_
  rw [v.record_readied, if_pos (List.mem_filter.1 mem).2]
  rfl

theorem State.frameSetpoints_eq : v.frameSetpoints = v.readied.setpoints (v.readied.engagedTarget v.frameNet) := by
  obtain ⟨c, e, l, reported⟩ := v.readied.reportStages_eq v.frameStages
  rw [State.frameSetpoints, reported]
  rfl

theorem State.sweepOrder_recorded : v.recorded.sweepOrder = v.readied.sweepOrder := by
  obtain ⟨c, e, r, l, figured⟩ := v.figured_eq
  obtain ⟨ring, n, cl, ce, l', recorded⟩ := v.figured.appendRecord_eq v.activeProfile (v.figured.frameRecord v.frameMarks)
  rw [State.recorded, recorded, figured]
  rfl

theorem State.frameCeilings_eq : v.frameCeilings =
    divideBudget (max 0 (v.frameStages.reference - v.readied.actualNet v.frameNet - v.unsteeredFigure v.activeProfile))
      ((v.readied.sweepOrder.filter fun p => v.isCluster p && (v.record p).active).map fun p =>
        { port := p, forecast := v.forecast v.activeProfile p, rated := (v.config p).rated }) := by
  rw [State.frameCeilings, State.activeBudget, v.figures_recorded.unsteeredFigure, v.figures_recorded.activeSet, v.sweepOrder_recorded]

end Governing

/-! ### The notices of the stages -/

theorem State.reportStages_told (s : State) (st : Stages) :
    (s.reportStages st).windowConflicts = s.windowConflicts + (if st.conflict ≠ none ∧ s.windowConflicts < 65535 then 1 else 0) ∧
    (s.reportStages st).excursions = s.excursions + (if st.shortfall ≠ none ∧ s.excursions < 65535 then 1 else 0) ∧
    ∀ q, (s.reportStages st).link q =
      s.notified ((st.conflict.map .windowConflict).toList ++ (st.shortfall.map .excursion).toList) q (s.link q) := by
  obtain ⟨reference, conflict, shortfall⟩ := st
  have counted (n : Nat) (some_ : Prop) [Decidable some_] (h : some_) : advance n = n + if some_ ∧ n < 65535 then 1 else 0 := by
    rw [advance_eq]
    simp only [h, true_and]
  cases conflict with
  | none =>
    cases shortfall with
    | none => exact ⟨rfl, rfl, fun q => (s.notified_nil q _).symm⟩
    | some y => exact ⟨rfl, counted _ _ nofun, fun q => State.link_raiseAll [.excursion y] { s with excursions := _ } q⟩
  | some x =>
    cases shortfall with
    | none => exact ⟨counted _ _ nofun, rfl, fun q => State.link_raiseAll [.windowConflict x] { s with windowConflicts := _ } q⟩
    | some y =>
      exact ⟨counted _ _ nofun, counted _ _ nofun, fun q => State.link_raiseAll [.windowConflict x, .excursion y] s q⟩

/-! ### The append, in its frame -/

/-- What an append reads and writes does not depend on the sweep, the governor's figures and the records. -/
theorem State.appendRecord_set (s : State) (profile : Profile) (r : FrameRecord) (start : Port) (lfsr : BitVec 16) (order : List Port)
    (reference target storageNet : Int) (conflicts excursions : Nat) (records : Vector PortRecord 12) :
    { s with
      sweepStart := start, sweepLfsr := lfsr, sweepOrder := order, reference := reference, target := target, storageNet := storageNet
      windowConflicts := conflicts, excursions := excursions, records := records }.appendRecord profile r =
    { s.appendRecord profile r with
      sweepStart := start, sweepLfsr := lfsr, sweepOrder := order, reference := reference, target := target, storageNet := storageNet
      windowConflicts := conflicts, excursions := excursions, records := records } := by
  rcases Option.eq_none_or_eq_some r.measured with measured | ⟨P, measured⟩
  · rw [State.appendRecord_of_unmeasured measured, State.appendRecord_of_unmeasured measured]
    rfl
  · rcases Option.eq_none_or_eq_some (complianceExcess profile s.site.tolerance P (s.exportsAfter profile r)) with passes | ⟨excess, fails⟩
    · rw [State.appendRecord_of_pass measured passes]
      exact State.appendRecord_of_pass measured passes
    · have failed := State.appendRecord_of_failure measured fails
      by_cases on : s.complianceLatched = true
      · rw [if_pos on] at failed
        rw [failed]
        exact Eq.trans (State.appendRecord_of_failure measured fails) (if_pos on)
      · rw [if_neg on] at failed
        rw [failed]
        exact Eq.trans (State.appendRecord_of_failure measured fails) (if_neg on)

end Sys2Proof.Machine
end

section
/-! The governing frame (O30). -/

namespace Sys2Proof.Machine

/-! ### What an emission leaves of a record -/

/-- An emission writes what a port was sent, its committed value, its recall and its staged raise, and takes it into RECALLING. -/
def PortRecord.Emitted (r r' : PortRecord) : Prop := ∃ participation committed lastSent outstanding staged,
  r' = { r with participation := participation, committed := committed, lastSent := lastSent, outstanding := outstanding, staged := staged }

namespace PortRecord.Emitted

theorem refl (r : PortRecord) : r.Emitted r := ⟨_, _, _, _, _, rfl⟩

theorem trans {a b c : PortRecord} (h : a.Emitted b) (k : b.Emitted c) : a.Emitted c := by
  obtain ⟨_, _, _, _, _, rfl⟩ := h
  obtain ⟨_, _, _, _, _, rfl⟩ := k
  exact ⟨_, _, _, _, _, rfl⟩

theorem setRecord (s : State) (p q : Port) {r : PortRecord} (h : (s.record p).Emitted r) : (s.record q).Emitted ((s.setRecord p r).record q) := by
  rw [State.record_setRecord]
  split
  case isTrue same => rw [same]; exact h
  case isFalse => exact refl _

theorem sendLimit (s : State) (p q : Port) (a : LimitAction) (v : Int) : (s.record q).Emitted ((s.sendLimit p a v).record q) := by
  obtain ⟨l, eq⟩ := s.sent_sendLimit p q a v
  exact ⟨_, _, l, _, _, eq⟩

theorem firstPassAt (s : State) (item : Port × Class) (q : Port) : (s.record q).Emitted ((s.firstPassAt item).record q) := by
  obtain ⟨p, c⟩ := item
  unfold State.firstPassAt
  dsimp only
  split
  case h_1 => exact (setRecord s p q ⟨_, _, _, _, _, rfl⟩).trans (sendLimit _ p q _ _)
  case h_2 =>
    split
    · exact (setRecord s p q ⟨_, _, _, _, _, rfl⟩).trans (sendLimit _ p q _ _)
    · exact sendLimit s p q _ _
  case h_3 | h_4 => exact (setRecord s p q ⟨_, _, _, _, _, rfl⟩).trans (sendLimit _ p q _ _)
  case h_5 | h_7 | h_8 => exact sendLimit s p q _ _
  case h_6 => exact refl _

theorem grantRaise (s : State) (p : Port) (d : Int) (q : Port) : (s.record q).Emitted ((s.grantRaise p d).record q) := by
  unfold State.grantRaise
  extract_lets g granted
  have sent : (s.record q).Emitted (granted.record q) := by
    unfold granted
    split
    · exact (setRecord s p q ⟨_, _, _, _, _, rfl⟩).trans (sendLimit _ p q _ _)
    · exact sendLimit s p q _ _
  split
  · exact sent
  · exact sent.trans (setRecord granted p q ⟨_, _, _, _, _, rfl⟩)

theorem secondPassAt (s : State) (item : Port × Class) (q : Port) : (s.record q).Emitted ((s.secondPassAt item).record q) := by
  unfold State.secondPassAt
  split
  exacts [grantRaise s item.1 _ q, refl _]

theorem emitFrame (s : State) (q : Port) : (s.record q).Emitted (s.emitFrame.record q) := by
  have fresh : (s.record q).Emitted (s.unstaged.record q) := by
    rw [State.record_unstaged]
    exact ⟨_, _, _, _, _, rfl⟩
  exact fresh.trans ((record_foldl refl trans firstPassAt _ _ q).trans (record_foldl refl trans secondPassAt _ _ q))

end PortRecord.Emitted

/-! ### The frame before its emission -/

section Governing
variable (v : State)

/-- The governing frame once its stages are reported, in all but its figures (R15, R17). -/
def State.reported : State := { v with links := (v.readied.reportStages v.frameStages).links }

theorem State.link_reported (q : Port) : v.reported.link q = v.notified
    ((v.frameStages.conflict.map .windowConflict).toList ++ (v.frameStages.shortfall.map .excursion).toList) q (v.link q) :=
  (v.readied.reportStages_told v.frameStages).2.2 q

theorem State.figured_eq_reported : v.figured = { v.reported with
    sweepStart := v.advanceSweep.sweepStart, sweepLfsr := v.advanceSweep.sweepLfsr
    sweepOrder := sweepOrderOf v.site.sweepMode v.advanceSweep.sweepStart
    reference := v.frameStages.reference, target := v.frameTarget, storageNet := v.readied.actualNet v.frameNet
    windowConflicts := (v.readied.reportStages v.frameStages).windowConflicts
    excursions := (v.readied.reportStages v.frameStages).excursions, records := v.figured.records } := by
  obtain ⟨c, e, l, reported⟩ := v.readied.reportStages_eq v.frameStages
  have whole : v.readied.reportStages v.frameStages = { v.readied with
      windowConflicts := (v.readied.reportStages v.frameStages).windowConflicts
      excursions := (v.readied.reportStages v.frameStages).excursions, links := (v.readied.reportStages v.frameStages).links } := by
    rw [reported]
  unfold State.reported State.figured
  generalize v.frameTarget = target, v.readied.actualNet v.frameNet = net, v.frameNet = S, v.frameStages = st at *
  generalize v.readied.reportStages st = u at *
  rw [whole]
  rfl

theorem State.frameRecord_figured : v.figured.frameRecord v.frameMarks =
    ⟨v.frameNumber, v.frameStages.reference, v.frameTarget, v.measuredPower, v.readied.actualNet v.frameNet,
      ⟨v.frameStages.shortfall.isSome, v.frameStages.conflict.isSome, false, false, false⟩⟩ := by
  rw [v.figured_eq_reported]
  rfl

/-- The state that the frame's append leaves, in all but the frame's figures (R28). -/
def State.appended : State := v.reported.appendRecord v.activeProfile
  ⟨v.frameNumber, v.frameStages.reference, v.frameTarget, v.measuredPower, v.readied.actualNet v.frameNet,
    ⟨v.frameStages.shortfall.isSome, v.frameStages.conflict.isSome, false, false, false⟩⟩

theorem State.divided_eq_appended : v.divided = { v.appended with
    sweepStart := v.advanceSweep.sweepStart, sweepLfsr := v.advanceSweep.sweepLfsr
    sweepOrder := sweepOrderOf v.site.sweepMode v.advanceSweep.sweepStart
    reference := v.frameStages.reference, target := v.frameTarget, storageNet := v.readied.actualNet v.frameNet
    windowConflicts := (v.readied.reportStages v.frameStages).windowConflicts
    excursions := (v.readied.reportStages v.frameStages).excursions, records := v.divided.records } := by
  have recorded : v.recorded = { v.appended with
      sweepStart := v.advanceSweep.sweepStart, sweepLfsr := v.advanceSweep.sweepLfsr
      sweepOrder := sweepOrderOf v.site.sweepMode v.advanceSweep.sweepStart
      reference := v.frameStages.reference, target := v.frameTarget, storageNet := v.readied.actualNet v.frameNet
      windowConflicts := (v.readied.reportStages v.frameStages).windowConflicts
      excursions := (v.readied.reportStages v.frameStages).excursions, records := v.figured.records } := by
    rw [State.recorded, v.frameRecord_figured, v.figured_eq_reported]
    exact State.appendRecord_set _ _ _ _ _ _ _ _ _ _ _ _
  have divided : v.divided = { v.recorded with records := v.divided.records } := by
    unfold State.divided
    generalize v.recorded = u
    rfl
  rw [recorded] at divided
  exact divided

theorem State.windowConflicts_divided : v.divided.windowConflicts =
    v.windowConflicts + if v.frameStages.conflict ≠ none ∧ v.windowConflicts < 65535 then 1 else 0 := by
  rw [v.divided_eq_appended]
  exact (v.readied.reportStages_told v.frameStages).1

theorem State.excursions_divided : v.divided.excursions =
    v.excursions + if v.frameStages.shortfall ≠ none ∧ v.excursions < 65535 then 1 else 0 := by
  rw [v.divided_eq_appended]
  exact (v.readied.reportStages_told v.frameStages).2.1

theorem State.storage_divided (p : Port) : (v.divided.record p).storage = if v.activeStorage p = true then v.formed p else (v.record p).storage := by
  rw [v.record_divided, v.record_figured, v.record_readied]
  by_cases active : v.activeStorage p = true
  · rw [if_pos active, if_pos active]
    split <;> split <;> rfl
  · rw [if_neg active, if_neg active]
    split <;> split <;> rfl

theorem State.desired_divided (p : Port) : (v.divided.record p).desired =
    if (v.config p).role = .cluster then lookupPort p v.frameCeilings
    else if (v.config p).role = .storage then lookupPort p v.frameSetpoints else (v.record p).desired := by
  rw [v.record_divided, v.record_figured, v.record_readied]
  generalize lookupPort p v.frameCeilings = ceiling, lookupPort p v.frameSetpoints = setpoint, v.record p = r
  split
  · rfl
  · split
    · rfl
    · split <;> rfl

theorem State.rest_divided (p : Port) : v.divided.record p =
    { v.record p with storage := (v.divided.record p).storage, desired := (v.divided.record p).desired } := by
  rw [v.record_divided, v.record_figured, v.record_readied]
  generalize lookupPort p v.frameCeilings = ceiling, lookupPort p v.frameSetpoints = setpoint, v.formed p = availabilities, v.record p = r
  split <;> split <;> split <;> rfl

end Governing

end Sys2Proof.Machine
end

section
/-! A GOVERNING frame computes as the obligation says (O30). -/

namespace Sys2Proof.Machine

/-- The overrun and the refused yields of a record do not change at an expiry (R113, R114). -/
theorem State.kept_prepareFrame {s : State} (running : s.mode.running = true) (p : Port) :
    (s.prepareFrame.record p).overrun = (s.record p).overrun ∧ (s.prepareFrame.record p).yieldsRefused = (s.record p).yieldsRefused := by
  have aged := State.aged_numberFrame running p
  dsimp only at aged
  rw [s.record_prepareFrame, congrArg Prod.fst aged]
  by_cases out : s.timesOutAt p = true <;> by_cases silent : s.fallsSilentAt p = true <;> simp [out, silent, PortRecord.timedOut, PortRecord.silenced]

theorem State.frame_governFrame (v : State) : v.governFrame.frame = v.divided.frame := by
  rw [v.governFrame_eq]
  exact State.frame_emitFrame _

theorem Participation.cases_of (x : Participation) : x = .engaged ∨ x = .recalling ∨ x = .stale ∨ x = .absent := by
  cases x <;> simp

/-- A cluster that is steered enters the target with its forecast, any other with what it is counted at (R8, R99). -/
theorem State.targetFigure_split (s : State) (profile : Profile) (p : Port) : s.targetFigure profile p =
    (if (s.config p).role = .cluster ∧ ((s.record p).participation = .engaged ∨ (s.record p).participation = .recalling) then s.forecast profile p else 0) +
    if (s.config p).role = .cluster ∧ (s.record p).participation = .stale then (s.record p).cluster.output
    else if (s.config p).role = .cluster ∧ (s.record p).participation = .absent then (s.config p).fallback else 0 := by
  rw [State.targetFigure_eq]
  by_cases role : (s.config p).role = .cluster
  · rcases (s.record p).participation.cases_of with h | h | h | h <;> simp [role, h, State.forecast]
  · simp [role]

/-- Settles O30: the figures of the frame, the append, the division, and the emission on what they leave. -/
theorem governingFrameComputes : Obligations.GoverningFrameComputes := by
  intro s mode running
  have due : s.frameDue = true := s.frameDue_iff.2 ⟨by rw [mode]; rfl, running⟩
  have number := State.frameNumber_prepareFrame (.inl mode)
  have same := s.prepared
  have kept := State.kept_prepareFrame (State.frameDue_running due)
  have expired : exec .frameExpiry s = .next s.prepareFrame.governFrame.settle := by
    rw [exec_frameExpiry, State.expireFrame_of_due due, State.workFrame, same.mode, mode]
  refine ⟨s.prepareFrame.governFrame, expired, ?_⟩
  generalize s.prepareFrame = v at *
  intro v' profile E active cluster storage ratio forecast unsteered T held d e sumOver fixed window st S engaged
  have isStorage (p : Port) : v.activeStorage p = true ↔ storage p ∧ active p := by
    rw [State.activeStorage_iff, same.config]
    rfl
  have isActive (p : Port) : (v.record p).active = true ↔ active p := (v.record p).active_iff
  have forecasts (p : Port) : v.forecast profile p = forecast p :=
    congrArg (fun x => (v.record p).cluster.available * x / 256) ((State.leadRatio_prepared same _ p).trans (State.leadRatio_eq s _ p))
  have figures (p : Port) : v.targetFigure profile p = (if cluster p ∧ active p then forecast p else 0) + unsteered p := by
    rw [State.targetFigure_split, same.config, forecasts]
  have unsteereds (p : Port) : (if (v.record p).active = true then 0 else v.targetFigure profile p) = unsteered p := by
    rw [figures]
    by_cases acts : active p
    · rw [if_pos ((isActive p).2 acts)]
      have counted (x : Participation) (engaged : .engaged ≠ x) (recalling : .recalling ≠ x) : ¬(cluster p ∧ (v.record p).participation = x) :=
        fun h => acts.elim (fun is => engaged (is.symm.trans h.2)) fun is => recalling (is.symm.trans h.2)
      exact ((if_neg (counted .stale nofun nofun)).trans (if_neg (counted .absent nofun nofun))).symm
    · rw [if_neg (mt (isActive p).1 acts), if_neg fun h => acts h.2, zero_add]
  have sums (f : StorageReport → Int) (g : Port → Int) (agree : ∀ p, f (v.formed p) = g p) : v.readied.storageSum f = sumOver g := by
    rw [State.storageSum_readied]
    exact Finset.sum_congr rfl fun p _ => if_congr (isStorage p) (agree p) rfl
  have discharges (p : Port) : (v.formed p).dischargeAvailability = d p := by
    dsimp only [State.formed]
    rw [same.config]
    rfl
  have charges (p : Port) : (v.formed p).chargeAvailability = e p := by
    dsimp only [State.formed]
    rw [same.config]
    rfl
  have fixedIs : v.readied.fixedStorage = fixed := by
    rw [v.figures_readied.fixedStorage, State.fixedStorage, portSum_eq_sum]
    simp only [same.config]
    rfl
  have dischargeIs : v.readied.engagedDischarge = sumOver d := sums _ _ discharges
  have chargeIs : v.readied.engagedCharge = sumOver e := sums _ _ charges
  have target : v.frameTarget = T := by
    rw [State.frameTarget_eq, State.targetPower_eq, same.site, Finset.sum_congr rfl fun p _ => figures p]
  have stagesIs : v.frameStages = st := by
    rw [State.frameStages_eq, target, State.greatestDischarge, dischargeIs, fixedIs, State.windowMin, State.windowMax, lowest_eq, highest_eq, same.site,
      same.reference]
    rfl
  have netIs : v.frameNet = S := by
    rw [State.frameNet_eq, stagesIs, target, chargeIs, sums _ (fun p => (held p).soe) fun _ => rfl, sums _ (fun p => (held p).capacity) fun _ => rfl]
    rfl
  have engagedIs : v.readied.engagedTarget v.frameNet = engaged := by
    rw [State.engagedTarget, netIs, chargeIs, dischargeIs, fixedIs]
    rfl
  have actual : v.readied.actualNet v.frameNet = engaged + fixed := by rw [State.actualNet, engagedIs, fixedIs]
  have order : v.governFrame.sweepOrder = v.readied.sweepOrder := by
    rw [State.sweepOrder_of_frame v.frame_governFrame, v.divided_eq_appended]
    rfl
  have members (f : StorageReport → Int) (g : Port → Int) (agree : ∀ p, f (v.formed p) = g p) : v.readied.storageMembers f =
      (v.governFrame.sweepOrder.filter fun q => decide (storage q ∧ active q)).map fun q => (q, g q) := by
    rw [v.members_readied, order]
    have test : v.activeStorage = fun q => decide (storage q ∧ active q) := funext fun q => by rw [Bool.eq_iff_iff, isStorage, decide_eq_true_eq]
    rw [test]
    simp only [agree]
  have frameRecord : (⟨v.frameNumber, v.frameStages.reference, v.frameTarget, v.measuredPower, v.readied.actualNet v.frameNet,
      ⟨v.frameStages.shortfall.isSome, v.frameStages.conflict.isSome, false, false, false⟩⟩ : FrameRecord) =
      ⟨s.frameNumber + 1, st.reference, T, s.measuredPower, engaged + fixed, ⟨st.shortfall.isSome, st.conflict.isSome, false, false, false⟩⟩ := by
    rw [number, stagesIs, target, actual, same.measured]
  have appended : v.appended = v.reported.appendRecord profile
      ⟨s.frameNumber + 1, st.reference, T, s.measuredPower, engaged + fixed, ⟨st.shortfall.isSome, st.conflict.isSome, false, false, false⟩⟩ := by
    rw [State.appended, frameRecord]
  obtain ⟨c, ns, ring, compliance, raised, links⟩ := v.reported.appendRecord_told profile
    ⟨s.frameNumber + 1, st.reference, T, s.measuredPower, engaged + fixed, ⟨st.shortfall.isSome, st.conflict.isSome, false, false, false⟩⟩
  rw [← appended] at ring raised links
  have frame := v.frame_governFrame
  have divided := v.divided_eq_appended
  have emitted (p : Port) : (v.divided.record p).Emitted (v.governFrame.record p) := by
    rw [v.governFrame_eq]
    exact PortRecord.Emitted.emitFrame _ p
  have storages (p : Port) : (v.governFrame.record p).storage = if v.activeStorage p = true then v.formed p else (v.record p).storage := by
    obtain ⟨_, _, _, _, _, eq⟩ := emitted p
    rw [eq, ← v.storage_divided]
  have desireds (p : Port) : (v.governFrame.record p).desired = if cluster p then lookupPort p v.frameCeilings
      else if storage p then lookupPort p v.frameSetpoints else (v.record p).desired := by
    obtain ⟨_, _, _, _, _, eq⟩ := emitted p
    rw [eq]
    refine (v.desired_divided p).trans ?_
    rw [same.config]
  obtain ⟨conflicts', excursions', ring', since', latched', episodes', records', links', framed⟩ :
      ∃ c e ring n cl ce r l, v.governFrame = { v with
        sweepStart := v.advanceSweep.sweepStart, sweepLfsr := v.advanceSweep.sweepLfsr
        sweepOrder := sweepOrderOf v.site.sweepMode v.advanceSweep.sweepStart
        reference := v.frameStages.reference, target := v.frameTarget, storageNet := v.readied.actualNet v.frameNet
        windowConflicts := c, excursions := e, ring := ring, sinceBase := n, reseedPending := false
        complianceLatched := cl, complianceEpisodes := ce, records := r, links := l } := v.governFrame_eq_writes
  have whole : v.governFrame = { v with
      frameNumber := v.governFrame.frameNumber, reference := v.governFrame.reference, target := v.governFrame.target
      storageNet := v.governFrame.storageNet, windowConflicts := v.governFrame.windowConflicts, excursions := v.governFrame.excursions
      ring := v.governFrame.ring, sinceBase := v.governFrame.sinceBase, reseedPending := v.governFrame.reseedPending
      complianceLatched := v.governFrame.complianceLatched, complianceEpisodes := v.governFrame.complianceEpisodes
      sweepStart := v.governFrame.sweepStart, sweepLfsr := v.governFrame.sweepLfsr, sweepOrder := v.governFrame.sweepOrder
      records := v.governFrame.records, links := v.governFrame.links } := by rw [framed]
  have ringIs : v.governFrame.ring = v.appended.ring := by rw [State.ring_of_frame frame, divided]
  have latchedIs : v.governFrame.complianceLatched = v.appended.complianceLatched := by rw [State.complianceLatched_of_frame frame, divided]
  refine ⟨by rw [framed]; exact same.mode.trans mode, by rw [framed]; exact number, by rw [framed, ← stagesIs], by rw [framed, ← target],
    by rw [framed, ← actual], ?_, ?_, ⟨_, ringIs.trans ring, rfl, rfl, rfl, rfl, rfl, rfl, rfl, rfl, Bool.false_or _⟩, ?_, ?_, ?_, ?_, ?_, ?_, ?_, ?_, ?_, ?_,
    whole⟩
  · rw [← same.windowConflicts, ← stagesIs]
    rw [State.windowConflicts_of_frame frame, v.windowConflicts_divided]
  · rw [← same.excursions, ← stagesIs]
    rw [State.excursions_of_frame frame, v.excursions_divided]
  · rw [framed, ← same.sweepLfsr, ← same.site]
    rfl
  · rw [framed, ← same.sweepLfsr, ← same.sweepStart, ← same.site]
    dsimp only [State.advanceSweep]
    split
    · rfl
    · exact Fin.val_add _ _
  · rw [framed, ← same.site]
  · intro p stores acts
    rw [storages, if_pos ((isStorage p).2 ⟨stores, acts⟩), State.formed, same.config]
    rfl
  · intro p other
    rw [storages, if_neg (mt (isStorage p).1 other)]
  · intro p notCluster notStorage
    rw [desireds, if_neg notCluster, if_neg notStorage]
  · intro p stores
    have notCluster : ¬cluster p := fun role => nomatch (stores : (s.config p).role = .storage).symm.trans role
    rw [desireds, if_neg notCluster, if_pos stores, v.frameSetpoints_eq, engagedIs, State.setpoints, members _ d discharges, members _ e charges,
      ← order, show v.readied.activeStorage = v.activeStorage from funext v.activeStorage_readied,
      show v.activeStorage = fun q => decide (storage q ∧ active q) from funext fun q => by rw [Bool.eq_iff_iff, isStorage, decide_eq_true_eq]]
  · intro p clusters
    rw [desireds, if_pos clusters, v.frameCeilings_eq, actual, stagesIs, State.unsteeredFigure, portSum_eq_sum,
      Finset.sum_congr rfl fun p _ => unsteereds p, ← order]
    have test : (fun q => v.isCluster q && (v.record q).active) = fun q => decide (cluster q ∧ active q) := funext fun q => by
      rw [Bool.eq_iff_iff, Bool.and_eq_true, isActive, decide_eq_true_eq, State.isCluster, beq_iff_eq, same.config]
    rw [test]
    simp only [same.config]
    rw [show v.forecast v.activeProfile = forecast from funext forecasts]
  · intro p
    obtain ⟨_, _, _, _, _, eq⟩ := emitted p
    rw [v.rest_divided] at eq
    rw [eq]
    exact ⟨rfl, rfl, rfl, (kept p).1, (kept p).2⟩
  · refine ⟨v.reported, v.divided, rfl, fun q => ?_, ?_, v.governFrame_eq, State.eq_of_frame frame.symm, fun p => ?_, ns, compliance, ?_, fun q => ?_⟩
    · rw [← stagesIs]
      exact v.link_reported q
    · rw [← appended]
      exact ⟨ringIs, by rw [State.sinceBase_of_frame frame, divided], by rw [State.reseedPending_of_frame frame, divided], latchedIs,
        by rw [State.complianceEpisodes_of_frame frame, divided], fun q => by rw [divided]; rfl⟩
    · obtain ⟨_, _, _, _, _, eq⟩ := emitted p
      rw [eq]
      exact v.rest_divided p
    · rw [latchedIs, ← same.latched]
      exact raised
    · rw [State.notified_append, ← stagesIs]
      refine (?_ : v.divided.link q = v.appended.link q).trans ((links q).trans ?_)
      · rw [divided]; rfl
      · rw [v.link_reported]
        rfl

end Sys2Proof.Machine
end

section
/-! The scan (O41, O42, O43). -/

namespace Sys2Proof.Machine

/-! ### The channels visited -/

/-- A channel that is visited and not read (R58), before the rest of a scan. -/
theorem State.Visited.of_passed {s s' w : State} {i : ChannelIndex} (notDue : ¬(s.channel i).Due) (same : ∃ channels, s' = { s with channels := channels })
    (own : s'.channel i = (s.channel i).passed) (others : ∀ j, j ≠ i → s'.channel j = s.channel j) (h : s'.Visited w (i.val + 1)) : s.Visited w i.val := by
  obtain ⟨channels, rfl⟩ := same
  have later {j : ChannelIndex} (le : i.val ≤ j.val) (other : j ≠ i) : i.val + 1 ≤ j.val := by
    have := Fin.val_ne_of_ne other
    omega
  refine ⟨h.rest, fun j before => ?_, fun j from_ due first => ?_, fun never => ?_⟩
  · rw [h.before j (by omega), others j (by rintro rfl; omega)]
  · have other : j ≠ i := by rintro rfl; exact notDue due
    have earlier (k : ChannelIndex) (from_ : i.val + 1 ≤ k.val) (lt : k < j) : ¬(State.channel { s with channels := channels } k).Due := by
      rw [others k (by rintro rfl; omega)]
      exact first k (by omega) lt
    obtain ⟨scan, read, passed, after⟩ := h.read j (later from_ other) (by rw [others j other]; exact due) earlier
    rw [others j other] at scan read
    refine ⟨scan, read, fun k from_ lt => ?_, fun k lt => ?_⟩
    · by_cases at_ : k = i
      · rw [at_, h.before i (by omega), own]
      · rw [passed k (later from_ at_) lt, others k at_]
    · have away : k ≠ i := by rintro rfl; exact absurd (Fin.lt_def.1 lt) (by omega)
      rw [after k lt, others k away]
  · obtain ⟨scan, passed⟩ := h.ended fun k from_ => by
      rw [others k (by rintro rfl; omega)]
      exact never k (by omega)
    refine ⟨scan, fun k from_ => ?_⟩
    by_cases at_ : k = i
    · rw [at_, h.before i (by omega), own]
    · rw [passed k (later from_ at_), others k at_]

/-- A visit of the channels from number `n` on (R58, R60). -/
theorem State.visited_visit (s : State) (n : Nat) : s.Visited (s.visit ((List.finRange 16).drop n)) n := by
  induction left : 16 - n generalizing s n with
  | zero =>
    rw [List.drop_eq_nil_of_le (by rw [List.length_finRange]; omega)]
    refine ⟨rfl, fun _ _ => rfl, fun i from_ => absurd i.isLt (by omega), fun _ => ⟨rfl, fun j from_ => absurd j.isLt (by omega)⟩⟩
  | succ k ih =>
    have inside : n < 16 := by omega
    have parts : (List.finRange 16).drop n = ⟨n, inside⟩ :: (List.finRange 16).drop (n + 1) := by
      rw [List.drop_eq_getElem_cons (by rw [List.length_finRange]; exact inside), List.getElem_finRange]
      rfl
    rw [parts, State.visit]
    generalize at_ : (⟨n, inside⟩ : ChannelIndex) = i
    have value : n = i.val := by rw [← at_]
    subst value
    dsimp only
    by_cases off : (s.channel i).state = .off
    · rw [if_pos off]
      exact .of_passed (fun due => due.1 off) ⟨s.channels, rfl⟩ (if_pos off).symm (fun _ _ => rfl) (ih s (i.val + 1) (by omega))
    · rw [if_neg off]
      by_cases due : (s.channel i).skipCounter = 0
      · rw [if_pos due]
        have own : (s.setChannel i { s.channel i with skipCounter := (s.channel i).config.skip }).channel i =
            { s.channel i with skipCounter := (s.channel i).config.skip } := by rw [State.channel_setChannel, if_pos rfl]
        have others (j : ChannelIndex) (other : j ≠ i) :
            (s.setChannel i { s.channel i with skipCounter := (s.channel i).config.skip }).channel j = s.channel j := by
          rw [State.channel_setChannel, if_neg other]
        refine ⟨rfl, fun j before => others j (by rintro rfl; omega), fun j from_ dueJ first => ?_, fun never => absurd ⟨off, due⟩ (never i (le_refl _))⟩
        have here : j = i := by
          by_contra other
          exact first i (le_refl _) (lt_of_le_of_ne from_ (Ne.symm other)) ⟨off, due⟩
        subst here
        exact ⟨rfl, own, fun k from_ lt => absurd lt (not_lt.2 from_), fun k lt => others k (ne_of_gt lt)⟩
      · rw [if_neg due]
        refine .of_passed (s' := s.setChannel i { s.channel i with skipCounter := (s.channel i).skipCounter - 1 }) (fun h => due h.2) ⟨_, rfl⟩ ?_ (fun j other => ?_)
          (ih _ (i.val + 1) (by omega))
        · rw [State.channel_setChannel, if_pos rfl]
          exact (if_neg off).symm
        · rw [State.channel_setChannel, if_neg other]

theorem State.visited_scanOn (s : State) (i : ChannelIndex) : s.Visited (s.scanOn i) (i.val + 1) := s.visited_visit (i.val + 1)

theorem exec_scanExpiry (s : State) : exec .scanExpiry s = .next (if s.scanDue && s.scan.isNone then (s.visit (List.finRange 16)).settle else s) := rfl

/-- Settles O41: a scan that begins visits the channels from 0 on. -/
theorem scanExpiryVisitsTheChannels : Obligations.ScanExpiryVisitsTheChannels := by
  intro s
  rw [exec_scanExpiry]
  refine ⟨fun running timer free => ⟨_, ?_, s.visited_visit 0⟩, fun busy => ?_⟩
  · have due : s.scanDue = true := by rw [State.scanDue, Bool.and_eq_true, bne_iff_ne]; exact ⟨timer, running⟩
    rw [due, free]
    rfl
  · have never : (s.scanDue && s.scan.isNone) = false := by
      rcases busy with scanning | stopped
      · rw [Option.isNone_eq_false_iff.2 (Option.isSome_iff_ne_none.2 scanning), Bool.and_false]
      · rw [State.scanDue, stopped]
        rfl
    rw [never]
    rfl

/-! ### A valid sample -/

theorem exec_sampleReceived {s : State} {scan : Scan} (awaited : s.scan = some scan) (high mid low status : Byte) :
    exec (.sampleReceived high mid low status) s = .next ((if status = 0#8 then
        s.sampleChannel scan.channel ((s.channel scan.channel).config.scale (rawSample high mid low))
      else s.missChannel scan.channel).scanOn scan.channel).settle := by
  show execSampleReceived high mid low status s = _
  rw [execSampleReceived, awaited]

theorem Channel.newTrack_eq (c : Channel) (entering : Bool) (v : Int) : c.newTrack entering v =
    if c.config.kind = .irradiance then if entering then v else max v (c.track - c.config.decay) else c.track := by
  rw [Channel.newTrack]
  cases c.config.kind <;> rfl

theorem Channel.track_gather (c : Channel) (v : Int) : (c.gather v).track = c.track := by
  unfold Channel.gather
  simp only
  split <;> rfl

/-- A channel's new current value with its track, its ratio and its alarms (R64, R68, R70, R72, R73). -/
theorem Channel.takeValue_eq (c : Channel) (v : Int) : c.takeValue v = { c with
    state := .valid, value := some v, lossMark := false, track := c.newTrack (c.state != .valid) v
    ratio := if c.config.kind = .irradiance then ratioOf (c.newTrack (c.state != .valid) v) v else c.ratio
    lowAlarm := c.lowAlarm || c.latchesLow v, highAlarm := c.highAlarm || c.latchesHigh v } := by
  rw [Channel.takeValue]
  cases c.config.kind <;> rfl

/-- A group reduced to one value (R63). -/
theorem Reduction.reduce_eq (mode : Reduction) (n : Nat) (group : List Int) : mode.reduce n group =
    match mode with
    | .first => group.headD 0
    | .max => group.max?.getD 0
    | .min => group.min?.getD 0
    | .mean => group.sum / n := by
  cases mode with
  | max => exact highest_eq 0 group
  | min => exact lowest_eq 0 group
  | first | mean => rfl

theorem State.notified_congr {s t : State} {q : Port} (standing : t.supervisory q = s.supervisory q) (ns : List Notice) (l : LinkPort) :
    t.notified ns q l = s.notified ns q l := by
  rw [State.notified, standing]
  rfl

/-- The mode that the meter's return leaves, and what it raises (R68, R143). -/
theorem State.meterReturn_told (s : State) : ∃ links, s.meterReturn = { s with mode := if s.mode = .holding then .governing else s.mode, links := links } ∧
    (s.mode.running = true → ∀ q, s.meterReturn.link q =
      s.notified (if s.mode = .holding then [.modeChange .holding .governing] else []) q (s.link q)) := by
  obtain ⟨links, eq⟩ := s.meterReturn_eq
  refine ⟨links, eq, fun running q => ?_⟩
  rw [State.meterReturn]
  by_cases held : s.mode = .holding
  · rw [if_pos held, if_pos held, State.link_changeMode]
    have after : ({ s with mode := .governing } : State).supervisory q = true ↔ s.supervisory q = true := by
      rw [State.supervisory_iff_of_not_standby (by nofun), State.supervisory_iff_of_not_standby (by rw [held]; nofun)]
      rfl
    by_cases told : s.supervisory q = true
    · refine (if_pos (after.2 told)).trans (Eq.trans ?_ (if_pos told).symm)
      exact congrArg (fun m => (s.link q).raise (.modeChange m .governing)) held
    · exact (if_neg (mt after.1 told)).trans ((if_neg told).trans (if_neg told).symm)
  · rw [if_neg held, if_neg held, State.notified_nil]

/-- A valid sample that gives no new current value (R63, R64). -/
theorem State.sampleChannel_of_none {s : State} {i : ChannelIndex} {v : Int} (none : (s.channel i).newValue v = none) :
    s.sampleChannel i v = s.setChannel i ((s.channel i).gather v) := by
  have kept := Channel.takeSample_of_none none
  rw [State.sampleChannel]
  dsimp only
  rw [none, kept]

/-- A valid sample that gives a new current value: its alarms, and the return of a meter that was lost (R64, R68, R70). -/
theorem State.sampleChannel_of_some {s : State} (running : s.mode.running = true) {i : ChannelIndex} {v value : Int}
    (found : (s.channel i).newValue v = some value) :
    let returns := (s.channel i).returnsMeter && decide (s.mode = .holding)
    ∃ links, s.sampleChannel i v = { s with
        mode := if returns then .governing else s.mode
        channels := s.channels.set i (((s.channel i).gather v).takeValue value), links := links } ∧
      ∀ q, (s.sampleChannel i v).link q = s.notified ((s.channel i).alarmNotices i value ++ (if (s.channel i).returnsMeter then [.meterBack i value] else []) ++
        if returns then [.modeChange .holding .governing] else []) q (s.link q) := by
  intro returns
  have taken : (s.channel i).takeSample v = ((s.channel i).gather v).takeValue value := by rw [Channel.takeSample, found]
  have whole : s.sampleChannel i v =
      let alarmed := (s.setChannel i (((s.channel i).gather v).takeValue value)).raiseAll ((s.channel i).alarmNotices i value)
      if (s.channel i).returnsMeter then (alarmed.raise (.meterBack i value)).meterReturn else alarmed := by
    rw [State.sampleChannel]
    dsimp only
    rw [found, taken]
  rw [whole]
  dsimp only
  generalize ((s.channel i).gather v).takeValue value = channel, (s.channel i).alarmNotices i value = alarms
  have framed := State.raiseAll_frame alarms (s.setChannel i channel)
  have raised (q : Port) : ((s.setChannel i channel).raiseAll alarms).link q = s.notified alarms q (s.link q) := State.link_raiseAll _ _ q
  by_cases back : (s.channel i).returnsMeter = true
  · have whether : returns = decide (s.mode = .holding) := by
      show ((s.channel i).returnsMeter && decide (s.mode = .holding)) = _
      rw [back, Bool.true_and]
    rw [if_pos back, if_pos back, whether]
    simp only [decide_eq_true_eq]
    generalize (s.setChannel i channel).raiseAll alarms = u at *
    obtain ⟨links, eq, told⟩ := (u.raise (.meterBack i value)).meterReturn_told
    have mode : (u.raise (.meterBack i value)).mode = s.mode := by rw [framed]; rfl
    have link (q : Port) : (u.raise (.meterBack i value)).link q = s.notified (alarms ++ [.meterBack i value]) q (s.link q) := by
      rw [State.notified_append, ← raised q]
      refine (State.link_raiseAll [.meterBack i value] u q).trans ?_
      rw [framed]
      rfl
    refine ⟨links, ?_, fun q => ?_⟩
    · rw [eq, mode, framed]
      rfl
    · rw [told (by rw [mode]; exact running), link, mode, State.notified_append s (alarms ++ [Notice.meterBack i value])]
      refine State.notified_congr ?_ _ _
      rw [State.raise_supervisory]
      exact State.supervisory_congr (by rw [framed]; rfl) (by rw [framed]; rfl) q
  · have whether : returns = false := by
      show ((s.channel i).returnsMeter && decide (s.mode = .holding)) = _
      rw [eq_false_of_ne_true back, Bool.false_and]
    rw [if_neg back, if_neg back, whether, if_neg Bool.false_ne_true, if_neg Bool.false_ne_true, List.append_nil, List.append_nil]
    exact ⟨_, framed, raised⟩

/-- Settles O42: the group, the reduction, the buffer and the current value, and what the value brings about. -/
theorem validSampleIsTakenIntoItsChannel : Obligations.ValidSampleIsTakenIntoItsChannel := by
  intro s high mid low
  refine ⟨fun idle status => ?_, ?_⟩
  · show execSampleReceived high mid low status s = _
    rw [execSampleReceived, idle]
  intro scan awaited running i c raw v group present reduced buffer becomes
  have scaled : c.config.scale (rawSample high mid low) = v := c.config.scale_eq raw
  have expired : exec (.sampleReceived high mid low 0#8) s = .next ((s.sampleChannel i v).scanOn i).settle := by
    rw [exec_sampleReceived awaited, if_pos rfl, ← scaled]
  have length : group.length = c.group.length + 1 := by rw [show group = _ from rfl, List.length_append, List.length_singleton]
  have full (fills : c.config.groupSize ≤ group.length) : c.gather v = { present with group := [], buffer := buffer } := by
    have reduces : c.config.reduction.reduce c.config.groupSize group = reduced := Reduction.reduce_eq _ _ _
    rw [Channel.gather]
    exact (if_pos fills).trans (congrArg (fun x => { present with group := [], buffer := c.config.pushBuffer c.buffer x }) reduces)
  have waits (channel : Channel) (none : c.newValue v = none) (gathered : c.gather v = channel) : becomes channel [] s.mode := by
    have eq : s.sampleChannel i v = s.setChannel i channel := (State.sampleChannel_of_none none).trans (by rw [gathered])
    rw [eq] at expired
    exact ⟨_, _, expired, State.visited_scanOn _ i, rfl, fun q => (s.notified_nil q _).symm⟩
  refine ⟨fun short => waits _ ?_ ?_, fun fills short => waits _ ?_ (full fills), fun fills holds => ?_⟩
  · exact if_neg fun h => absurd (lt_of_lt_of_eq short rfl) (not_lt.2 (length ▸ h.1))
  · exact if_neg (not_le.2 short)
  · refine if_neg fun h => ?_
    rw [full fills] at h
    exact absurd h.2 (not_le.2 short)
  · intro value track ratio latchesLow latchesHigh back returns
    have found : c.newValue v = some value := by
      have gathered := congrArg Channel.buffer (full fills)
      rw [Channel.newValue, gathered]
      exact if_pos ⟨length ▸ fills, holds⟩
    obtain ⟨links, eq, told⟩ := State.sampleChannel_of_some running (i := i) found
    have isBack : c.returnsMeter = back := by
      rw [Channel.returnsMeter, Bool.eq_iff_iff]
      simp [back]
    have valid : (c.gather v).state = .valid ↔ c.state = .valid := by
      rw [c.state_gather]
      split
      case isTrue lost => simp [lost]
      case isFalse => exact Iff.rfl
    have tracks : (c.gather v).newTrack ((c.gather v).state != .valid) value = track := by
      rw [Channel.newTrack_eq, c.config_gather, c.track_gather]
      simp only [bne_iff_ne, ne_eq, ite_not, valid]
      rfl
    have channel : (c.gather v).takeValue value =
        { present with
          state := .valid, group := [], buffer := buffer, value := some value, lossMark := false, track := track
          ratio := ratio, lowAlarm := c.lowAlarm || latchesLow, highAlarm := c.highAlarm || latchesHigh } := by
      rw [Channel.takeValue_eq, tracks, full fills]
      rfl
    have alarms : c.alarmNotices i value = (if c.config.notify && latchesLow then [.channelAlarm i false value] else []) ++
        (if c.config.notify && latchesHigh then [.channelAlarm i true value] else []) := by
      rw [Channel.alarmNotices]
      cases c.config.notify <;> rfl
    have isReturned : (c.returnsMeter && decide (s.mode = .holding)) = returns := by rw [isBack]
    rw [isReturned] at eq told
    refine ⟨s.sampleChannel i v, _, expired, State.visited_scanOn _ i, ?_, fun q => ?_⟩
    · rw [← channel, eq]
    · rw [told q, alarms, isBack]

/-! ### A missing sample -/

theorem exec_converterAnswerTimeout {s : State} {scan : Scan} (awaited : s.scan = some scan) :
    exec .converterAnswerTimeout s = .next ((s.missChannel scan.channel).scanOn scan.channel).settle := by
  show execConverterAnswerTimeout s = _
  rw [execConverterAnswerTimeout, awaited]

/-- A channel after a missing sample (R62, R65). -/
theorem Channel.takeMissing_eq (c : Channel) :
    let run := if c.missingRun < c.config.missLimit then c.missingRun + 1 else c.missingRun
    let counted : Channel := { c with missing := c.missing + if c.missing < 65535 then 1 else 0, missingRun := run }
    c.takeMissing = if c.config.missLimit ≤ run ∧ (c.state = .filling ∨ c.state = .valid) then
      { counted with state := .lost, group := [], buffer := [], value := none, ratio := 256, lossMark := true } else counted := by
  intro run counted
  rw [Channel.takeMissing, advance_eq]
  rfl

theorem Channel.losesMeter_iff (c : Channel) : c.losesMeter = true ↔ c.config.kind = .poiPower ∧ c.lossMark = false ∧
    (c.config.missLimit ≤ (if c.missingRun < c.config.missLimit then c.missingRun + 1 else c.missingRun) ∧ (c.state = .filling ∨ c.state = .valid)) := by
  rw [Channel.losesMeter, c.takeMissing_eq]
  dsimp only
  generalize (if c.missingRun < c.config.missLimit then c.missingRun + 1 else c.missingRun) = run
  by_cases lost : c.config.missLimit ≤ run ∧ (c.state = .filling ∨ c.state = .valid)
  · have standing : c.state ≠ .lost := by rintro gone; rw [gone] at lost; exact lost.2.elim nofun nofun
    simp [lost, standing]
  · rw [if_neg lost]
    by_cases gone : c.state = .lost <;> simp [gone, lost]

theorem State.record_enterHolding (s : State) (p : Port) : s.enterHolding.record p = { s.record p with staged := none } := by
  have discarded : ∃ t : State, s.enterHolding = t.changeMode .holding ∧ t.records = (s.mapRecords fun _ r => { r with staged := none }).records := ⟨_, rfl, rfl⟩
  obtain ⟨t, entered, records⟩ := discarded
  have record : s.enterHolding.record p = (s.mapRecords fun _ r => { r with staged := none }).record p := by
    rw [entered, State.changeMode_frame, State.record, records]
    rfl
  rw [record, State.record_mapRecords]

/-- Entering HOLDING at a link, from GOVERNING (R134). -/
theorem State.link_enterHolding {s : State} (mode : s.mode = .governing) (q : Port) :
    s.enterHolding.link q = s.notified [.modeChange .governing .holding] q (s.link q) := by
  have entered : ∃ t : State, s.enterHolding = t.changeMode .holding ∧ t.mode = s.mode ∧ t.portTable = s.portTable ∧ t.links = s.links :=
    ⟨_, rfl, rfl, rfl, rfl⟩
  obtain ⟨t, eq, same, table, links⟩ := entered
  rw [eq, State.link_changeMode]
  have link : t.link q = s.link q := congrArg (fun l : Vector LinkPort 12 => l[q]) links
  have stood : t.supervisory q = s.supervisory q := State.supervisory_congr same table q
  have stands (u : State) (held : u.mode = .holding) (kept : u.portTable = s.portTable) : u.supervisory q = s.supervisory q := by
    rw [Bool.eq_iff_iff, State.supervisory_iff_of_not_standby (by rw [held]; nofun), State.supervisory_iff_of_not_standby (by rw [mode]; nofun),
      State.config, kept]
    rfl
  rw [stands { t with mode := .holding } rfl table, stood, link, same, mode, State.notified]
  by_cases told : s.supervisory q = true
  · rw [if_pos told, if_pos told]
    rfl
  · rw [if_neg told, if_neg told, if_neg told]

/-- Settles O43: the channel's counts, its loss, and what the loss of a meter brings about. -/
theorem missingSampleMayLoseItsChannel : Obligations.MissingSampleMayLoseItsChannel := by
  intro s command missing
  refine ⟨fun idle => ?_, ?_⟩
  · rcases missing with rfl | ⟨high, mid, low, status, _, rfl⟩
    · show execConverterAnswerTimeout s = _
      rw [execConverterAnswerTimeout, idle]
    · show execSampleReceived high mid low status s = _
      rw [execSampleReceived, idle]
  intro scan awaited running i c run counted lost meter becomes lostChannel
  have expired : exec command s = .next ((s.missChannel i).scanOn i).settle := by
    rcases missing with rfl | ⟨high, mid, low, status, bad, rfl⟩
    · exact exec_converterAnswerTimeout awaited
    · rw [exec_sampleReceived awaited, if_neg bad]
  have taken : c.takeMissing = if lost then lostChannel else counted := c.takeMissing_eq
  have loses : c.losesMeter = true ↔ meter ∧ c.lossMark = false ∧ lost := c.losesMeter_iff
  have quiet (channel : Channel) (same : c.takeMissing = channel) (keeps : ¬(meter ∧ c.lossMark = false ∧ lost)) :
      ∃ u w, becomes channel u w [] ∧ u.mode = s.mode ∧ u.records = s.records ∧ u.holdingEntries = s.holdingEntries := by
    have eq : s.missChannel i = s.setChannel i channel := by
      rcases s.missChannel_cases i with ⟨_, eq⟩ | ⟨gone, _⟩ | ⟨gone, _⟩
      · rw [eq, ← same]
      · exact absurd (loses.1 gone) keeps
      · exact absurd (loses.1 gone) keeps
    refine ⟨s.missChannel i, _, ⟨expired, State.visited_scanOn _ i, ?_, fun q => ?_⟩, ?_, ?_, ?_⟩
    all_goals rw [eq]
    · rfl
    · exact (s.notified_nil q _).symm
    all_goals rfl
  refine ⟨fun stays => quiet _ (taken.trans (if_neg stays)) fun h => stays h.2.2, fun gone other => quiet _ (taken.trans (if_pos gone)) fun h => other h.1,
    fun gone _ marked => quiet _ (taken.trans (if_pos gone)) fun h => Bool.noConfusion (marked.symm.trans h.2.1), fun gone poi unmarked mode => ?_, fun gone poi unmarked mode => ?_⟩
  all_goals
    have isLost : c.takeMissing = lostChannel := taken.trans (if_pos gone)
    have loss : c.losesMeter = true := loses.2 ⟨poi, unmarked, gone⟩
  · have eq : s.missChannel i = (s.setChannel i lostChannel).raise (.meterLost i c.config.missLimit) := by
      rcases s.missChannel_cases i with ⟨keeps, _⟩ | ⟨_, _, eq⟩ | ⟨_, governs, _⟩
      · exact nomatch loss.symm.trans keeps
      · rw [eq, ← isLost]
      · exact absurd governs mode
    refine ⟨s.missChannel i, _, ⟨expired, State.visited_scanOn _ i, ?_, fun q => ?_⟩, ?_, ?_, ?_⟩
    all_goals rw [eq]
    · rfl
    · exact State.link_raiseAll [.meterLost i c.config.missLimit] (s.setChannel i lostChannel) q
    all_goals rfl
  · have eq : s.missChannel i = ((s.setChannel i lostChannel).raise (.meterLost i c.config.missLimit)).enterHolding := by
      rcases s.missChannel_cases i with ⟨keeps, _⟩ | ⟨_, other, _⟩ | ⟨_, _, eq⟩
      · exact nomatch loss.symm.trans keeps
      · exact absurd mode other
      · rw [eq, ← isLost]
    obtain ⟨u, isU⟩ : ∃ u, u = (s.setChannel i lostChannel).raise (.meterLost i c.config.missLimit) := ⟨_, rfl⟩
    have raised (q : Port) : u.link q = s.notified [.meterLost i c.config.missLimit] q (s.link q) := by
      rw [isU]
      exact State.link_raiseAll [.meterLost i c.config.missLimit] (s.setChannel i lostChannel) q
    obtain ⟨r, l, held⟩ := u.enterHolding_eq
    have modes : u.mode = .governing := by rw [isU]; exact mode
    refine ⟨s.missChannel i, _, ⟨expired, State.visited_scanOn _ i, ?_, fun q => ?_⟩, ?_, fun p => ?_, ?_⟩
    all_goals rw [eq, ← isU]
    · rw [held, isU]
      rfl
    · rw [State.link_enterHolding modes, raised]
      have standing : u.supervisory q = s.supervisory q := State.supervisory_congr (by rw [isU]; rfl) (by rw [isU]; rfl) q
      rw [State.notified_congr standing, ← State.notified_append]
      rfl
    · rw [held]
    · rw [u.record_enterHolding, isU]
      rfl
    · rw [held, isU]
      exact advance_eq _

end Sys2Proof.Machine
end

section
/-! Rejections and the loss of a link (O49). -/

namespace Sys2Proof.Machine

/-! ### The BOUND entries of a port -/

/-- An entry that the loss of a port's link removes (R50). -/
def Entry.boundTo (p : Port) (e : Entry) : Bool := e.port == p && e.profile.bound

theorem Entry.boundTo_iff (p : Port) (e : Entry) : e.boundTo p = true ↔ e.port = p ∧ e.profile.bound = true := by
  rw [Entry.boundTo, Bool.and_eq_true, beq_iff_eq]

theorem unbindOldest_of_none {p : Port} {es : List Entry} (h : unbindOldest p es = none) : ∀ e ∈ es, e.boundTo p = false := by
  induction es with
  | nil => exact List.forall_mem_nil _
  | cons e es ih =>
    unfold unbindOldest at h
    split at h
    · cases h
    case isFalse free =>
      refine List.forall_mem_cons.2 ⟨eq_false_of_ne_true (mt (e.boundTo_iff p).1 free), ih ?_⟩
      exact Option.map_eq_none_iff.1 h

/-- One removal takes one BOUND entry of the port, and no other. -/
theorem unbindOldest_of_some {p : Port} {es rest : List Entry} (h : unbindOldest p es = some rest) :
    rest.filter (fun e => !e.boundTo p) = es.filter (fun e => !e.boundTo p) ∧ rest.length + 1 = es.length ∧
      rest.countP (Entry.boundTo p) + 1 = es.countP (Entry.boundTo p) := by
  induction es generalizing rest with
  | nil => cases h
  | cons e es ih =>
    unfold unbindOldest at h
    split at h
    case isTrue held =>
      cases h
      have is := (e.boundTo_iff p).2 held
      simp [is]
    case isFalse free =>
      have isnt := eq_false_of_ne_true (mt (e.boundTo_iff p).1 free)
      obtain ⟨rest', found, rfl⟩ := Option.map_eq_some_iff.1 h
      obtain ⟨kept, length, count⟩ := ih found
      simp [isnt, kept, length, count]

theorem State.link_listChange (s : State) (cause : ListCause) (port : Option Port) (q : Port) : (s.listChange cause port).link q =
    s.notified [.listChange cause port s.entries.length (activePosition s.entries)] q (s.link q) :=
  State.link_raiseAll [.listChange cause port s.entries.length (activePosition s.entries)] s q

/-- `t` is what the removal of a port's BOUND entries from `s` leaves, with one LIST_CHANGE for each, the last with the list as it then stands (R50, R52). -/
structure State.Unbound (p : Port) (s t : State) (changes : List Notice) : Prop where
  entries : t.entries = s.entries.filter (fun e => !e.boundTo p)
  number : changes.length = s.entries.length - t.entries.length
  each : ∀ m ∈ changes, ∃ held active, m = .listChange .unbound (some p) held active
  last : ∀ m, changes.getLast? = some m → m = .listChange .unbound (some p) t.entries.length (activePosition t.entries)
  links : ∀ q, t.link q = s.notified changes q (s.link q)

theorem State.Unbound.of_free {p : Port} {s : State} (free : ∀ e ∈ s.entries, e.boundTo p = false) : State.Unbound p s s [] where
  entries := (List.filter_eq_self.2 fun e mem => by rw [free e mem]; rfl).symm
  number := (Nat.sub_self _).symm
  each := nofun
  last := nofun
  links := fun q => (s.notified_nil q _).symm

/-- A removal before the others. -/
theorem State.Unbound.of_removal {p : Port} {s t : State} {rest : List Entry} (found : unbindOldest p s.entries = some rest) {changes : List Notice}
    (h : State.Unbound p (State.listChange { s with entries := rest } .unbound (some p)) t changes) :
    State.Unbound p s t (.listChange .unbound (some p) rest.length (activePosition rest) :: changes) := by
  obtain ⟨kept, length, _⟩ := unbindOldest_of_some found
  have link (q : Port) := State.link_listChange { s with entries := rest } .unbound (some p) q
  obtain ⟨l, framed⟩ := State.listChange_eq { s with entries := rest } .unbound (some p)
  obtain ⟨left, number, each, last, links⟩ := h
  generalize ({ s with entries := rest } : State).listChange .unbound (some p) = u at *
  have entries : u.entries = rest := by rw [framed]
  rw [entries] at left number
  have shorter : t.entries.length ≤ rest.length := by
    rw [left]
    exact List.length_filter_le _ _
  refine ⟨left.trans kept, ?_, List.forall_mem_cons.2 ⟨⟨_, _, rfl⟩, each⟩, fun m at_ => ?_, fun q => ?_⟩
  · rw [List.length_cons, number]
    omega
  · rw [List.getLast?_cons] at at_
    cases later : changes.getLast? with
    | some m' =>
      rw [later] at at_
      exact last m (later.trans at_)
    | none =>
      rw [later] at at_
      have all_kept : t.entries = rest := by
        rw [List.getLast?_eq_none_iff.1 later, List.length_nil] at number
        have full : t.entries.length = rest.length := by omega
        rw [left] at full ⊢
        exact List.filter_eq_self.2 (List.length_filter_eq_length_iff.1 full)
      rw [all_kept]
      exact (Option.some.inj at_).symm
  · have standing : u.supervisory q = s.supervisory q := State.supervisory_congr (by rw [framed]) (by rw [framed]) q
    rw [links, State.notified_congr standing, link]
    exact (s.notified_append [_] changes q (s.link q)).symm

theorem State.unbindTimes_unbound (p : Port) (n : Nat) (s : State) (enough : s.entries.countP (Entry.boundTo p) ≤ n) :
    ∃ changes, State.Unbound p s (State.unbindTimes p n s) changes := by
  induction n generalizing s with
  | zero => exact ⟨[], .of_free fun e mem => eq_false_of_ne_true (List.countP_eq_zero.1 (Nat.le_zero.1 enough) e mem)⟩
  | succ n ih =>
    rw [State.unbindTimes]
    rcases Option.eq_none_or_eq_some (unbindOldest p s.entries) with without | ⟨rest, found⟩
    · rw [without]
      exact ⟨[], .of_free (unbindOldest_of_none without)⟩
    · rw [found]
      have fewer : (State.listChange { s with entries := rest } .unbound (some p)).entries.countP (Entry.boundTo p) ≤ n := by
        have count := (unbindOldest_of_some found).2.2
        rw [State.listChange_entries]
        dsimp only
        omega
      obtain ⟨changes, unbound⟩ := ih _ fewer
      exact ⟨_, unbound.of_removal found⟩

/-! ### The link, the port and the list -/

theorem LinkPort.reject_eq (l : LinkPort) : l.reject =
    { l with receiver := .hunt, rejected := l.rejected + if l.rejected < 65535 then 1 else 0, rejections := if l.up = true then l.rejections + 1 else l.rejections } := by
  rw [LinkPort.reject, advance_eq]

theorem LinkPort.losesLink_iff (l : LinkPort) : l.losesLink = true ↔ l.up = true ∧ 7 ≤ l.rejections := by
  rw [LinkPort.losesLink, Bool.and_eq_true, decide_eq_true_eq, Config.rejectionLimit]
  exact and_congr_right fun _ => by omega

/-- Silence at a port whose link is DOWN (R121, R131, R150). -/
theorem State.silencePort_told (s : State) (p : Port) (down : (s.link p).up = false) :
    let falls := (s.record p).participation ≠ .absent ∧ ¬((s.record p).participation = .stale ∧ (s.record p).cause = some .silence)
    (s.silencePort p).record p = (if falls then (s.record p).silenced (s.config p) else s.record p) ∧
    (∀ q, q ≠ p → (s.silencePort p).record q = s.record q) ∧ (s.silencePort p).link p = s.link p ∧
    ∀ q, (s.silencePort p).link q = s.notified (if falls then [.portStale p .silence (max (s.record p).committed (s.fbOrZero p))] else []) q (s.link q) := by
  intro falls
  have can : (s.record p).canFallSilent = true ↔ falls := by
    rw [PortRecord.canFallSilent, Bool.and_eq_true, bne_iff_ne, Bool.not_eq_true', ← Bool.not_eq_true, (s.record p).silent_iff]
  rw [State.silencePort]
  by_cases silent : falls
  · have value : (s.config p).silentValue (s.record p).committed = max (s.record p).committed (s.fbOrZero p) := by
      rw [PortConfig.silentValue, State.config_rest]
    have notice : ((s.record p).silenced (s.config p)).staleNotice p .silence = .portStale p .silence (max (s.record p).committed (s.fbOrZero p)) :=
      congrArg _ value
    rw [if_pos (can.2 silent), if_pos silent, if_pos silent]
    dsimp only
    rw [notice]
    refine ⟨?_, fun q other => ?_, ?_, fun q => State.link_raiseAll [.portStale p .silence _] _ q⟩
    · rw [State.raise_record, State.record_setRecord, if_pos rfl]
    · rw [State.raise_record, State.record_setRecord, if_neg other]
    · rw [State.link_raise]
      split
      · exact LinkPort.raise_of_down down _
      · rfl
  · rw [if_neg (mt can.1 silent), if_neg silent, if_neg silent]
    exact ⟨rfl, fun _ _ => rfl, rfl, fun q => (s.notified_nil q _).symm⟩

/-- The three commands that reject a frame (R148). -/
theorem exec_of_rejects {s : State} {p : Port} {c : Instr} (h : c = .frameRejected p ∨
    (s.link p).receiver ≠ .hunt ∧ (c = .interByteGapTimeout p ∨ ∃ b, c = .linkByteReceived p b false)) : exec c s = .next (s.rejectFrame p).settle := by
  rcases h with rfl | ⟨inside, rfl | ⟨b, rfl⟩⟩
  · rfl
  · exact congrArg Host.Outcome.next (if_neg inside)
  · exact congrArg Host.Outcome.next (if_neg inside)

theorem State.rejectFrame_of_kept {s : State} {p : Port} (kept : (s.link p).losesLink = false) : s.rejectFrame p = s.setLink p (s.link p).reject := by
  rw [State.rejectFrame, kept]
  rfl

/-- The link that a rejection loses: silence, and the BOUND entries of a SUPERVISOR port (R121, R149, R150). -/
theorem State.rejectFrame_of_lost {s : State} {p : Port} (lost : (s.link p).losesLink = true) :
    ∃ u : State, u = s.setLink p ⟨.hunt, false, 0, [], .idle, [], (s.link p).accepted, (s.link p).rejected + if (s.link p).rejected < 65535 then 1 else 0⟩ ∧
      s.rejectFrame p = if (s.config p).role = .supervisor then (u.silencePort p).unbind p else u.silencePort p := by
  refine ⟨(s.setLink p (s.link p).reject).setLink p ((s.setLink p (s.link p).reject).link p).down, ?_, ?_⟩
  · rw [State.link_setLink, if_pos rfl, LinkPort.reject_eq, LinkPort.down, State.setLink, State.setLink, State.setLink, Vector.set_set]
  · rw [State.rejectFrame, lost]
    rfl

theorem State.notified_of_down (s : State) (ns : List Notice) (q : Port) {l : LinkPort} (down : l.up = false) : s.notified ns q l = l := by
  unfold State.notified
  split
  · induction ns with
    | nil => rfl
    | cons n ns ih => rw [List.foldl_cons, LinkPort.raise_of_down down, ih]
  · rfl

/-- The BOUND entries of a SUPERVISOR port removed (R50); any other port's list work is none. -/
theorem State.unbound_of_role (t : State) (p : Port) : ∃ changes,
    let w := if (t.config p).role = .supervisor then t.unbind p else t
    w = { t with entries := w.entries, links := w.links } ∧ (∀ q, w.record q = t.record q) ∧
      w.entries = t.entries.filter (fun e => ¬((t.config p).role = .supervisor ∧ e.port = p ∧ e.profile.bound = true)) ∧
      changes.length = t.entries.length - w.entries.length ∧
      (∀ n ∈ changes, ∃ held active, n = .listChange .unbound (some p) held active) ∧
      (∀ n, changes.getLast? = some n → n = .listChange .unbound (some p) w.entries.length (activePosition w.entries)) ∧
      ∀ q, w.link q = t.notified changes q (t.link q) := by
  by_cases role : (t.config p).role = .supervisor
  · obtain ⟨changes, entries, number, each, last, links⟩ := t.unbindTimes_unbound p t.entries.length List.countP_le_length
    have framed : State.unbindTimes p t.entries.length t = { t with
        entries := (State.unbindTimes p t.entries.length t).entries, links := (State.unbindTimes p t.entries.length t).links } := by
      obtain ⟨es, l, _, eq⟩ := t.unbindTimes_eq p t.entries.length
      rw [eq]
    refine ⟨changes, ?_⟩
    rw [if_pos role, State.unbind]
    refine ⟨framed, State.record_unbindTimes p _ t, entries.trans (List.filter_congr fun e _ => ?_), number, each, last, links⟩
    rw [Bool.eq_iff_iff, Bool.not_eq_true', ← Bool.not_eq_true, e.boundTo_iff, decide_eq_true_eq]
    exact not_congr ⟨fun held => ⟨role, held⟩, fun held => held.2⟩
  · refine ⟨[], ?_⟩
    rw [if_neg role]
    refine ⟨rfl, fun _ => rfl, (List.filter_eq_self.2 fun e _ => by rw [decide_eq_true_eq]; exact fun held => role held.1).symm, (Nat.sub_self _).symm, nofun, nofun,
      fun q => (t.notified_nil q _).symm⟩

/-- Settles O49: a rejection counts, and the eighth takes the link, the port and the BOUND entries with it. -/
theorem rejectionsTakeTheLinkDown : Obligations.RejectionsTakeTheLinkDown := by
  intro s p l r rejected silent bound c rejects
  have rejection := exec_of_rejects rejects
  refine ⟨fun stays => ⟨s.rejectFrame p, rejection, ?_⟩, fun up seven => ⟨s.rejectFrame p, rejection, ?_⟩⟩
  · have kept : l.losesLink = false := by
      rw [← Bool.not_eq_true, LinkPort.losesLink_iff]
      rintro ⟨up, seven⟩
      rcases stays with down | few
      · exact nomatch up.symm.trans down
      · omega
    rw [State.rejectFrame_of_kept kept]
    refine ⟨rfl, ?_, fun q other => ?_⟩
    · rw [State.link_setLink, if_pos rfl, LinkPort.reject_eq]
    · rw [State.link_setLink, if_neg other]
  · obtain ⟨u, isU, eq⟩ := State.rejectFrame_of_lost ((LinkPort.losesLink_iff l).2 ⟨up, seven⟩)
    have link : u.link p = ⟨.hunt, false, 0, [], .idle, [], l.accepted, rejected⟩ := by rw [isU, State.link_setLink, if_pos rfl]
    have others (q : Port) (other : q ≠ p) : u.link q = s.link q := by rw [isU, State.link_setLink, if_neg other]
    have standing (q : Port) : u.supervisory q = s.supervisory q := State.supervisory_congr (by rw [isU]; rfl) (by rw [isU]; rfl) q
    have record (q : Port) : u.record q = s.record q := by rw [isU]; rfl
    have config (q : Port) : u.config q = s.config q := by rw [isU]; rfl
    have fallback : u.fbOrZero p = s.fbOrZero p := by rw [State.fbOrZero, config]; rfl
    have entries : u.entries = s.entries := by rw [isU]; rfl
    have framed : u = { s with links := u.links } := by rw [isU]; rfl
    obtain ⟨own, away, same, told⟩ := u.silencePort_told p (by rw [link])
    rw [record, config] at own
    simp only [record, fallback] at told
    have silencedFrame : u.silencePort p = { u with records := (u.silencePort p).records, links := (u.silencePort p).links } :=
      State.eq_of_frame (State.frame_silencePort u p)
    generalize u.silencePort p = t at *
    have tableT (q : Port) : t.config q = s.config q := by rw [silencedFrame, ← config]; rfl
    have entriesT : t.entries = s.entries := by rw [silencedFrame]; exact entries
    have standingT (q : Port) : t.supervisory q = s.supervisory q := by
      rw [← standing]
      exact State.supervisory_congr (by rw [silencedFrame]) (by rw [silencedFrame]) q
    obtain ⟨changes, unbound⟩ := t.unbound_of_role p
    rw [tableT, ← eq] at unbound
    generalize s.rejectFrame p = w at *
    obtain ⟨whole, records, left, number, each, last, links⟩ := unbound
    rw [entriesT] at left number
    refine ⟨?_, ?_, fun falls => ?_, fun heard => ?_, fun q other => ?_, left, changes, number, each, last, fun q other => ?_⟩
    · rw [whole, silencedFrame, framed]
    · rw [links, same, link]
      exact State.notified_of_down t changes p rfl
    · rw [records, own, if_pos falls, PortRecord.silenced, PortConfig.silentValue, State.config_rest]
    · rw [records, own, if_neg heard]
    · rw [records, away q other, record]
    · rw [links, State.notified_congr (standingT q), told, State.notified_congr (standing q), others q other]
      exact (s.notified_append _ changes q (s.link q)).symm

end Sys2Proof.Machine
end

section
/-! The bytes of requests (for O45 to O48 and O6). -/

namespace Sys2Proof.Machine

/-! ### Numbers and their bytes -/

theorem ofInt_add_mul (x k : Int) : BitVec.ofInt 8 (x + 256 * k) = BitVec.ofInt 8 x := by
  refine BitVec.eq_of_toNat_eq ?_
  rw [BitVec.toNat_ofInt, BitVec.toNat_ofInt]
  norm_num [Int.add_mul_emod_self_left]

/-- The bytes of a number do not see a multiple of what they can hold. -/
theorem bigEndian_add_mul (n : Nat) (v k : Int) : bigEndian n (v + 256 ^ n * k) = bigEndian n v := by
  induction n generalizing k with
  | zero => rfl
  | succ n ih =>
    have pos : (256 : Int) ^ n ≠ 0 := by positivity
    have shape : v + 256 ^ (n + 1) * k = v + 256 ^ n * (256 * k) := by ring
    rw [bigEndian, bigEndian, shape, ih, Int.add_mul_ediv_left _ _ pos, ofInt_add_mul]

theorem foldl_readBytes (bs : List Byte) (acc : Nat) :
    bs.foldl (fun acc b => acc * 256 + b.toNat) acc = acc * 256 ^ bs.length + readBytes bs := by
  induction bs generalizing acc with
  | nil => simp [readBytes]
  | cons b bs ih =>
    rw [readBytes, List.foldl_cons, List.foldl_cons, ih, ih (0 * 256 + b.toNat), List.length_cons]
    ring

theorem readBytes_cons (b : Byte) (bs : List Byte) : readBytes (b :: bs) = b.toNat * 256 ^ bs.length + readBytes bs := by
  rw [readBytes, List.foldl_cons, foldl_readBytes, Nat.zero_mul, Nat.zero_add]

theorem readBytes_lt (bs : List Byte) : readBytes bs < 256 ^ bs.length := by
  induction bs with
  | nil => exact Nat.one_pos
  | cons b bs ih =>
    have byte : b.toNat ≤ 255 := Nat.le_of_lt_succ b.isLt
    rw [readBytes_cons, List.length_cons, pow_succ]
    nlinarith [Nat.mul_le_mul_right (256 ^ bs.length) byte]

/-- The bytes of the number that bytes spell are those bytes. -/
theorem bigEndian_readBytes (bs : List Byte) : bigEndian bs.length (readBytes bs : Nat) = bs := by
  induction bs with
  | nil => rfl
  | cons b bs ih =>
    have pos : 0 < 256 ^ bs.length := by positivity
    have head : (readBytes (b :: bs) : Int) / 256 ^ bs.length = b.toNat := by
      have whole : readBytes (b :: bs) / 256 ^ bs.length = b.toNat := by
        rw [readBytes_cons, Nat.add_comm, Nat.add_mul_div_right _ _ pos, Nat.div_eq_of_lt (readBytes_lt bs), Nat.zero_add]
      exact_mod_cast whole
    have tail : (readBytes (b :: bs) : Int) = readBytes bs + 256 ^ bs.length * b.toNat := by
      rw [readBytes_cons]
      push_cast
      ring
    rw [List.length_cons, bigEndian, head, tail, bigEndian_add_mul, ih, BitVec.ofInt_natCast, BitVec.ofNat_toNat, BitVec.setWidth_eq]

theorem readBytes_bigEndian (n v : Nat) : readBytes (bigEndian n v) = v % 256 ^ n := by
  induction n with
  | zero => simp [bigEndian, readBytes, Nat.mod_one]
  | succ n ih =>
    have head : (BitVec.ofInt 8 ((v : Int) / 256 ^ n)).toNat = v / 256 ^ n % 256 := by
      rw [show (v : Int) / 256 ^ n = ((v / 256 ^ n : Nat) : Int) by push_cast; rfl, BitVec.ofInt_natCast, BitVec.toNat_ofNat]
    rw [bigEndian, readBytes_cons, ih, head, Laws.FrameSpelling.length_bigEndian, pow_succ, Nat.mod_mul]
    ring

/-! ### Fields -/

theorem two_pow_mul_eight (n : Nat) : 2 ^ (8 * n) = 256 ^ n := pow_mul 2 8 n

/-- A field read where a field was sent (R157). -/
theorem field_of_sent {p : List Byte} {at_ n : Nat} {v : BitVec (8 * n)} (sent : (p.drop at_).take n = sendField n v) : field p at_ n = v := by
  refine BitVec.eq_of_toNat_eq ?_
  rw [field, BitVec.toNat_ofNat, sent, sendField, readBytes_bigEndian, two_pow_mul_eight, Nat.mod_mod, ← two_pow_mul_eight, Nat.mod_eq_of_lt v.isLt]

theorem readBytes_singleton (b : Byte) : readBytes [b] = b.toNat := by simp [readBytes]

theorem field_of_byte {p : List Byte} {at_ : Nat} {b : Byte} (sent : (p.drop at_).take 1 = [b]) : field p at_ 1 = b := by
  refine BitVec.eq_of_toNat_eq ?_
  rw [field, BitVec.toNat_ofNat, sent, readBytes_singleton]
  exact Nat.mod_eq_of_lt b.isLt

/-- A field sent again is the bytes it was read from (R157). -/
theorem sendField_field {p : List Byte} {at_ n : Nat} (inside : at_ + n ≤ p.length) : sendField n (field p at_ n) = (p.drop at_).take n := by
  have length : ((p.drop at_).take n).length = n := by
    rw [List.length_take, List.length_drop]
    omega
  have spelled := bigEndian_readBytes ((p.drop at_).take n)
  have bound := readBytes_lt ((p.drop at_).take n)
  rw [length] at spelled bound
  rw [sendField, field, BitVec.toNat_ofNat, two_pow_mul_eight, Nat.mod_eq_of_lt bound, spelled]

/-- A single byte read stands where it was read. -/
theorem cons_field {p : List Byte} {at_ : Nat} (inside : at_ + 1 ≤ p.length) (xs : List Byte) :
    List.cons (α := Byte) (field p at_ 1) xs = (p.drop at_).take 1 ++ xs := by
  have one : (p.drop at_).take 1 = [p[at_]] := by
    rw [List.drop_eq_getElem_cons inside]
    rfl
  have byte : field p at_ 1 = p[at_] := field_of_byte one
  rw [one, byte]
  rfl

/-- Neighbouring pieces of a payload. -/
theorem take_append_drop_at {p : List Byte} {at_ n next : Nat} (meets : at_ + n = next) : (p.drop at_).take n ++ p.drop next = p.drop at_ := by
  rw [← meets, ← List.drop_drop, List.take_append_drop]

theorem take_drop_of_end {p : List Byte} {at_ n : Nat} (ends : p.length = at_ + n) : (p.drop at_).take n = p.drop at_ :=
  List.take_of_length_le (by rw [List.length_drop]; omega)

/-! ### Payloads read and sent again -/

section SentAgain
variable {p : List Byte}

theorem payload_reportCluster_read (length : p.length = 12) : (Request.reportCluster (field p 0 4) (field p 4 4) (field p 8 4)).payload = p := by
  have last : (p.drop 8).take 4 = p.drop 8 := take_drop_of_end length
  simp [Request.payload, sendField_field, length, last, take_append_drop_at]

theorem payload_reportStorage_read (length : p.length = 20) :
    (Request.reportStorage (field p 0 4) (field p 4 4) (field p 8 4) (field p 12 4) (field p 16 4)).payload = p := by
  have last : (p.drop 16).take 4 = p.drop 16 := take_drop_of_end length
  simp [Request.payload, sendField_field, length, last, take_append_drop_at]

theorem payload_yield_read (length : p.length = 4) : (Request.yield (field p 0 4)).payload = p := by
  have last : p.take 4 = p := take_drop_of_end (at_ := 0) length
  simp [Request.payload, sendField_field, length, last]

theorem payload_byte_read (length : p.length = 1) : [(field p 0 1 : Byte)] = p := by
  have last : p.take 1 = p := take_drop_of_end (at_ := 0) length
  simp [cons_field, length, last]

theorem payload_clear_read (length : p.length = 2) : (Request.clear (field p 0 1) (field p 1 1)).payload = p := by
  have last : (p.drop 1).take 1 = p.drop 1 := take_drop_of_end length
  simp [-List.drop_one, Request.payload, cons_field, length, last]

theorem payload_query_read (length : p.length = 4) : (Request.query (field p 0 1) (field p 1 2) (field p 3 1)).payload = p := by
  have last : (p.drop 3).take 1 = p.drop 3 := take_drop_of_end length
  simp [-List.drop_one, Request.payload, sendField_field, cons_field, length, last, take_append_drop_at]

theorem payload_setSite_read (length : p.length = 21) : (Request.setSite (readSiteFields p)).payload = p := by
  have last : (p.drop 19).take 2 = p.drop 19 := take_drop_of_end length
  simp [Request.payload, readSiteFields, sendField_field, cons_field, length, last, take_append_drop_at]

theorem payload_setPort_read (length : p.length = 19) : (Request.setPort (readPortFields p)).payload = p := by
  have last : (p.drop 15).take 4 = p.drop 15 := take_drop_of_end length
  simp [-List.drop_one, Request.payload, readPortFields, sendField_field, cons_field, length, last, take_append_drop_at]

theorem payload_setChan_read (length : p.length = 24) : (Request.setChan (readChannelFields p)).payload = p := by
  have last : (p.drop 21).take 3 = p.drop 21 := take_drop_of_end length
  simp [-List.drop_one, Request.payload, readChannelFields, sendField_field, cons_field, length, last, take_append_drop_at]

theorem payload_setProf_read (length : p.length = 26) : (Request.setProf (readProfileBlock p 0)).payload = p := by
  have last : (p.drop 25).take 1 = p.drop 25 := take_drop_of_end length
  simp [Request.payload, sendProfileBlock, readProfileBlock, sendField_field, cons_field, length, last, take_append_drop_at]

theorem payload_push_read (length : p.length = 29) : (Request.push (readProfileBlock p 0) (field p 26 1) (field p 27 2)).payload = p := by
  have last : (p.drop 27).take 2 = p.drop 27 := take_drop_of_end length
  simp [Request.payload, sendProfileBlock, readProfileBlock, sendField_field, cons_field, length, last, take_append_drop_at]

end SentAgain

/-! ### Payloads sent and read -/

theorem readSiteFields_payload (f : SiteFields) : readSiteFields (Request.setSite f).payload = f := by
  obtain ⟨_, _, _, _, _, _, _, _, _, _, _⟩ := f
  simp only [readSiteFields, SiteFields.mk.injEq]
  exact ⟨field_of_sent rfl, field_of_sent rfl, field_of_sent rfl, field_of_byte rfl, field_of_byte rfl, field_of_byte rfl, field_of_sent rfl,
    field_of_sent rfl, field_of_byte rfl, field_of_byte rfl, field_of_sent rfl⟩

theorem readPortFields_payload (f : PortFields) : readPortFields (Request.setPort f).payload = f := by
  obtain ⟨_, _, _, _, _, _, _⟩ := f
  simp only [readPortFields, PortFields.mk.injEq]
  exact ⟨field_of_byte rfl, field_of_byte rfl, field_of_sent rfl, field_of_sent rfl, field_of_byte rfl, field_of_sent rfl, field_of_sent rfl⟩

theorem readChannelFields_payload (f : ChannelFields) : readChannelFields (Request.setChan f).payload = f := by
  obtain ⟨_, _, _, _, _, _, _, _, _, _, _, _, _, _⟩ := f
  simp only [readChannelFields, ChannelFields.mk.injEq]
  exact ⟨field_of_byte rfl, field_of_byte rfl, field_of_byte rfl, field_of_byte rfl, field_of_sent rfl, field_of_sent rfl, field_of_byte rfl,
    field_of_byte rfl, field_of_byte rfl, field_of_byte rfl, field_of_byte rfl, field_of_sent rfl, field_of_sent rfl, field_of_sent rfl⟩

theorem readProfileBlock_send (b : ProfileBlock) (rest : List Byte) : readProfileBlock (sendProfileBlock b ++ rest) 0 = b := by
  obtain ⟨_, _, _, _, _, _, _, _, _⟩ := b
  simp only [readProfileBlock, ProfileBlock.mk.injEq, sendProfileBlock, List.append_assoc]
  exact ⟨field_of_sent rfl, field_of_sent rfl, field_of_sent rfl, field_of_sent rfl, field_of_sent rfl, field_of_sent rfl, field_of_byte rfl,
    field_of_sent rfl, field_of_byte rfl⟩

/-! ### Decoding, kind by kind (R151, R157) -/

section Decoding
variable (p : List Byte)

theorem decode_join : Request.decode 0x10#8 p = if p.length = 1 then some (.join (field p 0 1)) else none := rfl
theorem decode_report : Request.decode 0x11#8 p = if p.length = 12 then some (.reportCluster (field p 0 4) (field p 4 4) (field p 8 4))
    else if p.length = 20 then some (.reportStorage (field p 0 4) (field p 4 4) (field p 8 4) (field p 12 4) (field p 16 4)) else none := rfl
theorem decode_yield : Request.decode 0x12#8 p = if p.length = 4 then some (.yield (field p 0 4)) else none := rfl
theorem decode_push : Request.decode 0x20#8 p =
    if p.length = 29 then some (.push (readProfileBlock p 0) (field p 26 1) (field p 27 2)) else none := rfl
theorem decode_query : Request.decode 0x22#8 p = if p.length = 4 then some (.query (field p 0 1) (field p 1 2) (field p 3 1)) else none := rfl
theorem decode_setSite : Request.decode 0x23#8 p = if p.length = 21 then some (.setSite (readSiteFields p)) else none := rfl
theorem decode_setPort : Request.decode 0x24#8 p = if p.length = 19 then some (.setPort (readPortFields p)) else none := rfl
theorem decode_setChan : Request.decode 0x25#8 p = if p.length = 24 then some (.setChan (readChannelFields p)) else none := rfl
theorem decode_setProf : Request.decode 0x26#8 p = if p.length = 26 then some (.setProf (readProfileBlock p 0)) else none := rfl
theorem decode_mode : Request.decode 0x27#8 p = if p.length = 1 then some (.mode (field p 0 1)) else none := rfl
theorem decode_clear : Request.decode 0x28#8 p = if p.length = 2 then some (.clear (field p 0 1) (field p 1 1)) else none := rfl

end Decoding

/-- Every request is read back from its payload (R157). -/
theorem Request.decode_payload (r : Request) : Request.decode r.kind r.payload = some r := by
  cases r with
  | join role =>
    refine (decode_join _).trans ((if_pos rfl).trans ?_)
    rw [Option.some.injEq, Request.join.injEq]
    exact field_of_byte rfl
  | reportCluster o a d =>
    refine (decode_report _).trans ((if_pos rfl).trans ?_)
    simp only [Option.some.injEq, Request.reportCluster.injEq]
    exact ⟨field_of_sent rfl, field_of_sent rfl, field_of_sent rfl⟩
  | reportStorage a d c e k =>
    refine (decode_report _).trans ((if_neg nofun).trans ((if_pos rfl).trans ?_))
    simp only [Option.some.injEq, Request.reportStorage.injEq]
    exact ⟨field_of_sent rfl, field_of_sent rfl, field_of_sent rfl, field_of_sent rfl, field_of_sent rfl⟩
  | yield v =>
    refine (decode_yield _).trans ((if_pos rfl).trans ?_)
    rw [Option.some.injEq, Request.yield.injEq]
    exact field_of_sent rfl
  | leave | drop | restart => rfl
  | push b delay expiry =>
    refine (decode_push _).trans ((if_pos rfl).trans ?_)
    have block : readProfileBlock (Request.push b delay expiry).payload 0 = b := by
      rw [Request.payload, List.append_assoc]
      exact readProfileBlock_send b _
    simp only [Option.some.injEq, Request.push.injEq]
    exact ⟨block, field_of_byte rfl, field_of_sent rfl⟩
  | query target index count =>
    refine (decode_query _).trans ((if_pos rfl).trans ?_)
    simp only [Option.some.injEq, Request.query.injEq]
    exact ⟨field_of_byte rfl, field_of_sent rfl, field_of_byte rfl⟩
  | setSite f => exact (decode_setSite _).trans ((if_pos rfl).trans (congrArg some (congrArg Request.setSite (readSiteFields_payload f))))
  | setPort f => exact (decode_setPort _).trans ((if_pos rfl).trans (congrArg some (congrArg Request.setPort (readPortFields_payload f))))
  | setChan f => exact (decode_setChan _).trans ((if_pos rfl).trans (congrArg some (congrArg Request.setChan (readChannelFields_payload f))))
  | setProf b =>
    have block : readProfileBlock (Request.setProf b).payload 0 = b := by
      rw [Request.payload, ← List.append_nil (sendProfileBlock b)]
      exact readProfileBlock_send b _
    exact (decode_setProf _).trans ((if_pos rfl).trans (congrArg some (congrArg Request.setProf block)))
  | mode code =>
    refine (decode_mode _).trans ((if_pos rfl).trans ?_)
    rw [Option.some.injEq, Request.mode.injEq]
    exact field_of_byte rfl
  | clear selector channel =>
    refine (decode_clear _).trans ((if_pos rfl).trans ?_)
    simp only [Option.some.injEq, Request.clear.injEq]
    exact ⟨field_of_byte rfl, field_of_byte rfl⟩

theorem kind_of_decode {kind : Byte} {p : List Byte} {r : Request} (h : Request.decode kind p = some r) :
    kind ∈ [0x10#8, 0x11#8, 0x12#8, 0x13#8, 0x20#8, 0x21#8, 0x22#8, 0x23#8, 0x24#8, 0x25#8, 0x26#8, 0x27#8, 0x28#8, 0x29#8] := by
  by_contra other
  simp only [List.mem_cons, List.not_mem_nil, or_false, not_or] at other
  obtain ⟨h1, h2, h3, h4, h5, h6, h7, h8, h9, h10, h11, h12, h13, h14⟩ := other
  rw [Request.decode, if_neg h1, if_neg h2, if_neg h3, if_neg h4, if_neg h5, if_neg h6, if_neg h7, if_neg h8, if_neg h9, if_neg h10, if_neg h11,
    if_neg h12, if_neg h13, if_neg h14] at h
  cases h

theorem eq_of_ite_some {α : Type} {c : Prop} [Decidable c] {a b : α} (h : (if c then some a else none) = some b) : c ∧ b = a := by
  by_cases holds : c
  · rw [if_pos holds] at h
    exact ⟨holds, (Option.some.inj h).symm⟩
  · rw [if_neg holds] at h
    cases h

/-- A payload that is read as a request is that request's own: no bit is dropped (R157). -/
theorem Request.payload_of_decode {kind : Byte} {p : List Byte} {r : Request} (h : Request.decode kind p = some r) : r.kind = kind ∧ r.payload = p := by
  have empty {r' : Request} (h : (if p.length = 0 then some r' else none) = some r) (none : r'.payload = []) : r'.kind = r.kind ∧ r.payload = p := by
    obtain ⟨length, rfl⟩ := eq_of_ite_some h
    exact ⟨rfl, none.trans (List.length_eq_zero_iff.1 length).symm⟩
  have kinds := kind_of_decode h
  simp only [List.mem_cons, List.not_mem_nil, or_false] at kinds
  rcases kinds with rfl | rfl | rfl | rfl | rfl | rfl | rfl | rfl | rfl | rfl | rfl | rfl | rfl | rfl
  · rw [decode_join] at h
    obtain ⟨length, rfl⟩ := eq_of_ite_some h
    exact ⟨rfl, payload_byte_read length⟩
  · rw [decode_report] at h
    by_cases twelve : p.length = 12
    · rw [if_pos twelve] at h
      obtain rfl := Option.some.inj h
      exact ⟨rfl, payload_reportCluster_read twelve⟩
    · rw [if_neg twelve] at h
      obtain ⟨length, rfl⟩ := eq_of_ite_some h
      exact ⟨rfl, payload_reportStorage_read length⟩
  · rw [decode_yield] at h
    obtain ⟨length, rfl⟩ := eq_of_ite_some h
    exact ⟨rfl, payload_yield_read length⟩
  · exact (empty h rfl).imp_left Eq.symm
  · rw [decode_push] at h
    obtain ⟨length, rfl⟩ := eq_of_ite_some h
    exact ⟨rfl, payload_push_read length⟩
  · exact (empty h rfl).imp_left Eq.symm
  · rw [decode_query] at h
    obtain ⟨length, rfl⟩ := eq_of_ite_some h
    exact ⟨rfl, payload_query_read length⟩
  · rw [decode_setSite] at h
    obtain ⟨length, rfl⟩ := eq_of_ite_some h
    exact ⟨rfl, payload_setSite_read length⟩
  · rw [decode_setPort] at h
    obtain ⟨length, rfl⟩ := eq_of_ite_some h
    exact ⟨rfl, payload_setPort_read length⟩
  · rw [decode_setChan] at h
    obtain ⟨length, rfl⟩ := eq_of_ite_some h
    exact ⟨rfl, payload_setChan_read length⟩
  · rw [decode_setProf] at h
    obtain ⟨length, rfl⟩ := eq_of_ite_some h
    exact ⟨rfl, payload_setProf_read length⟩
  · rw [decode_mode] at h
    obtain ⟨length, rfl⟩ := eq_of_ite_some h
    exact ⟨rfl, payload_byte_read length⟩
  · rw [decode_clear] at h
    obtain ⟨length, rfl⟩ := eq_of_ite_some h
    exact ⟨rfl, payload_clear_read length⟩
  · exact (empty h rfl).imp_left Eq.symm

/-! ### Layouts -/

section Layout
variable {p : List Byte} {at_ n : Nat}

theorem carries_of_sent {v : Int} (sent : (p.drop at_).take n = bigEndian n v) : carries p at_ n v := by
  rw [carries, sent, bigEndian_eq]

theorem carries_of_byte {b : Byte} (sent : (p.drop at_).take 1 = [b]) : carries p at_ 1 b.toNat := by
  refine carries_of_sent (sent.trans ?_)
  have spelled := bigEndian_readBytes [b]
  rw [readBytes_singleton] at spelled
  exact spelled.symm

/-- A field of two's complement carries its signed number (R157). -/
theorem carries_of_signed {v : BitVec (8 * n)} (sent : (p.drop at_).take n = sendField n v) : carries p at_ n v.toInt := by
  refine carries_of_sent (sent.trans ?_)
  rw [sendField, BitVec.toInt_eq_toNat_cond, two_pow_mul_eight]
  split
  · rfl
  · have shape : ((v.toNat : Int) - ((256 ^ n : Nat) : Int)) = v.toNat + 256 ^ n * (-1) := by push_cast; ring
    rw [shape, bigEndian_add_mul]

end Layout

theorem ProfileBlock.laidOut_send (b : ProfileBlock) (rest : List Byte) : b.LaidOut (sendProfileBlock b ++ rest) := by
  rw [sendProfileBlock]
  simp only [List.append_assoc]
  exact ⟨carries_of_sent rfl, carries_of_sent rfl, carries_of_sent rfl, carries_of_sent rfl, carries_of_sent rfl, carries_of_sent rfl, carries_of_byte rfl,
    carries_of_sent rfl, carries_of_byte rfl⟩

/-- The place and the width of each field of a request (R157). -/
theorem Request.laidOut (r : Request) : r.LaidOut := by
  cases r with
  | join role => exact ⟨⟨rfl, rfl⟩, carries_of_byte rfl⟩
  | reportCluster o a d => exact ⟨⟨rfl, rfl⟩, carries_of_sent rfl, carries_of_sent rfl, carries_of_sent rfl⟩
  | reportStorage a d c e k =>
    exact ⟨⟨rfl, rfl⟩, carries_of_signed (n := 4) rfl, carries_of_sent rfl, carries_of_sent rfl, carries_of_sent rfl, carries_of_sent rfl⟩
  | yield v => exact ⟨⟨rfl, rfl⟩, carries_of_signed (n := 4) rfl⟩
  | leave | drop | restart => exact ⟨rfl, rfl⟩
  | push b delay expiry =>
    have block : b.LaidOut (Request.push b delay expiry).payload := by
      rw [Request.payload, List.append_assoc]
      exact ProfileBlock.laidOut_send b _
    exact ⟨⟨rfl, rfl⟩, block, carries_of_byte rfl, carries_of_sent rfl⟩
  | query target index count => exact ⟨⟨rfl, rfl⟩, carries_of_byte rfl, carries_of_sent rfl, carries_of_byte rfl⟩
  | setSite f =>
    rw [Request.LaidOut, Request.payload]
    simp only [List.append_assoc]
    exact ⟨⟨rfl, rfl⟩, carries_of_sent rfl, carries_of_sent rfl, carries_of_sent rfl, carries_of_byte rfl, carries_of_byte rfl, carries_of_byte rfl,
      carries_of_sent rfl, carries_of_sent rfl, carries_of_byte rfl, carries_of_byte rfl, carries_of_sent rfl⟩
  | setPort f =>
    rw [Request.LaidOut, Request.payload]
    simp only [List.append_assoc]
    exact ⟨⟨rfl, rfl⟩, carries_of_byte rfl, carries_of_byte rfl, carries_of_sent rfl, carries_of_sent rfl, carries_of_byte rfl, carries_of_sent rfl,
      carries_of_sent rfl⟩
  | setChan f =>
    rw [Request.LaidOut, Request.payload]
    simp only [List.append_assoc]
    exact ⟨⟨rfl, rfl⟩, carries_of_byte rfl, carries_of_byte rfl, carries_of_byte rfl, carries_of_byte rfl, carries_of_signed (n := 3) rfl,
      carries_of_signed (n := 3) rfl, carries_of_byte rfl, carries_of_byte rfl, carries_of_byte rfl, carries_of_byte rfl, carries_of_byte rfl,
      carries_of_signed (n := 3) rfl, carries_of_signed (n := 3) rfl, carries_of_sent rfl⟩
  | setProf b =>
    have block : b.LaidOut (Request.setProf b).payload := by
      rw [Request.payload, ← List.append_nil (sendProfileBlock b)]
      exact ProfileBlock.laidOut_send b _
    exact ⟨⟨rfl, rfl⟩, block⟩
  | mode code => exact ⟨⟨rfl, rfl⟩, carries_of_byte rfl⟩
  | clear selector channel => exact ⟨⟨rfl, rfl⟩, carries_of_byte rfl, carries_of_byte rfl⟩

/-- Settles O47: each request by its fields, each payload by its kind and its length. -/
theorem requestsAreReadBack : Obligations.RequestsAreReadBack := by
  refine ⟨fun r => ⟨Laws.FrameSpelling.kind_isRequestKind r, Request.decode_payload r⟩, fun kind payload r => Request.payload_of_decode, Request.laidOut,
    fun p index count channel => ?_⟩
  exact ⟨rfl, rfl, rfl, rfl, rfl, rfl, rfl, rfl, rfl, rfl, rfl⟩

end Sys2Proof.Machine
end

section
/-! The receiver's bytes (O45, O46). -/

namespace Sys2Proof.Machine

/-! ### The receiver's moves -/

theorem exec_linkByteReceived (s : State) (p : Port) (b : Byte) : exec (.linkByteReceived p b true) s = .next (s.takeByte p b) := rfl

theorem foldl_xor (bs : List Byte) (acc : Byte) : bs.foldl (· ^^^ ·) acc = acc ^^^ xorBytes bs := by
  induction bs generalizing acc with
  | nil => simp [xorBytes]
  | cons b bs ih => 
    have first : (0 : Byte) ^^^ b = b := BitVec.zero_xor
    rw [xorBytes, List.foldl_cons, List.foldl_cons, ih, ih (0 ^^^ b), first, BitVec.xor_assoc]

theorem checkByte_eq (kind len : Byte) (held : List Byte) : checkByte kind len held = held.foldl (· ^^^ ·) (kind ^^^ len) := (foldl_xor _ _).symm

section Moved
variable {s : State} {p : Port}

theorem State.link_setReceiver (s : State) (p : Port) (r : Receiver) : (s.setReceiver p r).link p = { s.link p with receiver := r } := by
  rw [State.setReceiver, State.link_setLink, if_pos rfl]

theorem State.receiver_setReceiver (s : State) (p : Port) (r : Receiver) : ((s.setReceiver p r).link p).receiver = r := by rw [s.link_setReceiver]

theorem State.link_setReceiver_ne (s : State) {p q : Port} (r : Receiver) (other : q ≠ p) : (s.setReceiver p r).link q = s.link q := by
  rw [State.setReceiver, State.link_setLink, if_neg other]

theorem State.setReceiver_setReceiver (s : State) (p : Port) (r r' : Receiver) : (s.setReceiver p r).setReceiver p r' = s.setReceiver p r' := by
  rw [State.setReceiver, s.link_setReceiver, State.setReceiver, State.setReceiver, State.setLink, State.setLink, State.setLink, Vector.set_set]

/-- What an accepted frame makes of a part does not depend on the receiver's state. -/
theorem State.acceptFrame_setReceiver (s : State) (p : Port) (r : Receiver) : (s.setReceiver p r).acceptFrame p = s.acceptFrame p := by
  have accepted : ((s.setReceiver p r).link p).accept = (s.link p).accept := by rw [s.link_setReceiver]; rfl
  rw [State.acceptFrame, accepted, State.acceptFrame, State.setReceiver, State.setLink_record, State.setLink, State.setLink, State.setLink,
    Vector.set_set]

theorem State.takeByte_sync (hunt : (s.link p).receiver = .hunt) : s.takeByte p 0xA5#8 = s.setReceiver p .kind := by
  simp only [State.takeByte, hunt]
  rfl

theorem State.takeByte_noise (hunt : (s.link p).receiver = .hunt) {b : Byte} (noise : b ≠ 0xA5#8) : s.takeByte p b = s := by
  simp only [State.takeByte, hunt]
  exact if_neg noise

theorem State.takeByte_kind (kind : (s.link p).receiver = .kind) (b : Byte) : s.takeByte p b = s.setReceiver p (.len b) := by
  simp only [State.takeByte, kind]

theorem State.takeByte_tooLong {kind : Byte} (len : (s.link p).receiver = .len kind) {b : Byte} (long : 64 < b.toNat) :
    s.takeByte p b = (s.rejectFrame p).settle := by
  simp only [State.takeByte, len, if_pos long]

/-- The receiver of a frame whose length has come and whose payload, as far as it has come, is `held` (R147). -/
def Receiver.holding (kind len : Byte) (held : List Byte) : Receiver :=
  if held.length < len.toNat then .payload kind len held else .check kind len held

theorem Receiver.holding_of_lt {kind len : Byte} {held : List Byte} (short : held.length < len.toNat) :
    Receiver.holding kind len held = .payload kind len held := if_pos short

theorem Receiver.holding_of_le {kind len : Byte} {held : List Byte} (whole : len.toNat ≤ held.length) :
    Receiver.holding kind len held = .check kind len held := if_neg (by omega)

theorem State.takeByte_len {kind : Byte} (len : (s.link p).receiver = .len kind) {b : Byte} (fits : b.toNat ≤ 64) :
    s.takeByte p b = s.setReceiver p (.holding kind b []) := by
  simp only [State.takeByte, len, if_neg (show ¬64 < b.toNat by omega)]
  by_cases empty : b = 0#8
  · rw [if_pos empty, Receiver.holding_of_le (by rw [empty]; rfl)]
  · have positive : 0 < b.toNat := Nat.pos_of_ne_zero (mt (fun zero => BitVec.eq_of_toNat_eq zero) empty)
    exact (if_neg empty).trans (congrArg _ (Receiver.holding_of_lt (held := []) positive).symm)

theorem State.takeByte_payload {kind len : Byte} {held : List Byte} (payload : (s.link p).receiver = .payload kind len held) (b : Byte) :
    s.takeByte p b = s.setReceiver p (.holding kind len (held ++ [b])) := by
  simp only [State.takeByte, payload, Receiver.holding, List.length_append, List.length_singleton]
  split <;> rfl

theorem State.takeByte_check {kind len : Byte} {held : List Byte} (check : (s.link p).receiver = .check kind len held) :
    s.takeByte p (checkByte kind len held) = s.receiveFrame p kind held := by
  simp only [State.takeByte, check, if_true]

theorem State.takeByte_badCheck {kind len : Byte} {held : List Byte} (check : (s.link p).receiver = .check kind len held) {b : Byte}
    (bad : b ≠ checkByte kind len held) : s.takeByte p b = (s.rejectFrame p).settle := by
  simp only [State.takeByte, check, if_neg bad]

/-- An accepted frame that reads as a request is that request's receipt. -/
theorem State.receiveFrame_of_request {kind : Byte} {payload : List Byte} {r : Request} (known : isRequestKind kind = true)
    (read : Request.decode kind payload = some r) : s.receiveFrame p kind payload = s.receive p r := by
  rw [State.receiveFrame, State.validate, known, read]
  rfl

theorem State.receiveFrame_of_otherLength {kind : Byte} {payload : List Byte} (known : isRequestKind kind = true)
    (unread : Request.decode kind payload = none) : s.receiveFrame p kind payload = ((s.acceptFrame p).nak p kind .length).settle := by
  rw [State.receiveFrame, State.validate, known, unread]
  rfl

/-- A MODE, QUERY or CLEAR whose code is outside its table is of a supervisory kind, and its owner refuses it (R142, R161). -/
theorem State.take_outsideTable {r : Request} (outside : r.OutsideTable) : s.take p r = s.nak p r.kind .range := by
  rcases outside with ⟨code, rfl, large⟩ | ⟨target, index, count, rfl, large⟩ | ⟨selector, channel, rfl, large⟩
  · rw [State.take, State.takeMode]
    split
    case h_1 zero => omega
    case h_2 one => omega
    case h_3 => rfl
  · refine s.takeQuery_of_none p ?_
    unfold State.queryData
    split
    case h_7 => rfl
    all_goals omega
  · rw [State.take, State.takeClear]
    split
    case h_1 zero => omega
    case h_2 one => omega
    case h_3 two => omega
    case h_4 => rfl

theorem lengthFits_of_outsideTable {r : Request} (outside : r.OutsideTable) (role : Role) : lengthFits role r = true := by
  rcases outside with ⟨_, rfl, _⟩ | ⟨_, _, _, rfl, _⟩ | ⟨_, _, rfl, _⟩ <;> rfl

theorem supervisory_of_outsideTable {r : Request} (outside : r.OutsideTable) : Request.ofController r = false := by
  rcases outside with ⟨_, rfl, _⟩ | ⟨_, _, _, rfl, _⟩ | ⟨_, _, rfl, _⟩ <;> rfl

/-- The answers to a code outside its table (R137, R142, R151, R161). -/
theorem State.receive_outsideTable {r : Request} (outside : r.OutsideTable) :
    (s.mode = .loading → s.receive p r = ((s.acceptFrame p).nak p r.kind .state).settle) ∧
      (s.mode ≠ .loading → ¬s.Supervises p → s.receive p r = ((s.acceptFrame p).nak p r.kind .role).settle) ∧
      (s.mode ≠ .loading → s.Supervises p → s.receive p r = ((s.acceptFrame p).nak p r.kind .range).settle) := by
  have supervisory := supervisory_of_outsideTable outside
  have notStatus : ¬∃ i n, r = .query 0#8 i n := by
    rintro ⟨i, n, rfl⟩
    simp [Request.OutsideTable] at outside
  refine ⟨fun loading => ?_, fun mode standing => ?_, fun mode standing => ?_⟩
  · rw [State.receive, State.judge_of_loading (lengthFits_of_outsideTable outside _) (by rwa [State.acceptFrame_mode]),
      State.takeLoading_refuses notStatus]
  · have disallowed : (s.acceptFrame p).allows p r = false := by
      rw [State.allows_acceptFrame, State.allows_eq_false_iff, State.MayAsk, supervisory]
      exact standing
    rw [State.receive, State.judge_of_role (lengthFits_of_outsideTable outside _) (by rwa [State.acceptFrame_mode]) disallowed]
  · rw [State.receive_supervised supervisory mode standing, State.take_outsideTable outside]

end Moved

/-- Settles O45: the receiver's moves state by state, and what an accepted frame is answered. -/
theorem receiverTakesEachByte : Obligations.ReceiverTakesEachByte := by
  intro s p b l moves rejected
  have exec_eq : exec (.linkByteReceived p b true) s = .next (s.takeByte p b) := exec_linkByteReceived s p b
  have moved {r : Receiver} (move : s.takeByte p b = s.setReceiver p r) : moves r :=
    ⟨_, exec_eq.trans (congrArg _ move), rfl, s.link_setReceiver p r, fun q => s.link_setReceiver_ne r⟩
  have reject (move : s.takeByte p b = (s.rejectFrame p).settle) : rejected (.linkByteReceived p b true) := exec_eq.trans (congrArg _ move)
  refine ⟨fun hunt sync => moved ?_, fun hunt noise => ?_, fun kind => moved (State.takeByte_kind kind b), fun kind len => ⟨fun long => ?_,
    fun zero => moved ?_, fun positive fits => moved ?_⟩, fun kind len held payload => ⟨fun short => moved ?_, fun whole => moved ?_⟩,
    fun kind len held atCheck => ?_, fun hunt => ⟨?_, ?_⟩, fun inside => ⟨?_, ?_⟩⟩
  · rw [sync]
    exact State.takeByte_sync hunt
  · refine ⟨s, exec_eq.trans (congrArg _ (State.takeByte_noise hunt noise)), rfl, ?_, fun q _ => rfl⟩
    rw [← hunt]
  · exact reject (State.takeByte_tooLong len long)
  · rw [State.takeByte_len len (by omega), Receiver.holding_of_le (by rw [zero]; rfl)]
  · rw [State.takeByte_len len fits, Receiver.holding_of_lt (by simpa using positive)]
  · rw [State.takeByte_payload payload, Receiver.holding_of_lt (by simpa using short)]
  · rw [State.takeByte_payload payload, Receiver.holding_of_le (by simpa using whole)]
  · intro check
    have accepted (good : b = check) : exec (.linkByteReceived p b true) s = .next (s.receiveFrame p kind held) := by
      rw [exec_eq, good.trans (checkByte_eq kind len held).symm, State.takeByte_check atCheck]
    refine ⟨fun bad => reject (State.takeByte_badCheck atCheck (by rwa [checkByte_eq])), fun good unknown => ⟨_, ?_, s.answers_nak p kind .kind⟩,
      fun good known unread => ⟨_, ?_, s.answers_nak p kind .length⟩, fun c r good known asked read => ?_, fun r good known read outside => ?_⟩
    · rw [accepted good, State.receiveFrame_of_unknown unknown]
    · rw [accepted good, State.receiveFrame_of_otherLength known unread]
    · rw [accepted good, State.receiveFrame_of_request known read, exec_of_request asked]
    · intro refused
      have refuses {reason : NakReason} (nak : s.receive p r = ((s.acceptFrame p).nak p r.kind reason).settle) : refused reason := by
        refine ⟨_, ?_, s.answers_nak p kind reason⟩
        rw [accepted good, State.receiveFrame_of_request known read, nak, (Request.payload_of_decode read).1]
      obtain ⟨loading, role, range⟩ := State.receive_outsideTable (s := s) (p := p) outside
      exact ⟨fun mode => refuses (loading mode), fun mode standing => refuses (role mode standing), fun mode standing => refuses (range mode standing)⟩
  · exact congrArg Host.Outcome.next (if_pos hunt)
  · exact congrArg Host.Outcome.next (if_pos hunt)
  · exact exec_of_rejects (.inr ⟨inside, .inr ⟨b, rfl⟩⟩)
  · exact exec_of_rejects (.inr ⟨inside, .inl rfl⟩)

/-! ### A whole frame, byte by byte -/

theorem runCommands_byte (s : State) (p : Port) (b : Byte) (cs : List Instr) :
    runCommands (.linkByteReceived p b true :: cs) s = runCommands cs (s.takeByte p b) := rfl

theorem State.takeByte_holding (s : State) (p : Port) {kind len : Byte} {held : List Byte} (short : held.length < len.toNat) (b : Byte) :
    (s.setReceiver p (.holding kind len held)).takeByte p b = s.setReceiver p (.holding kind len (held ++ [b])) := by
  rw [Receiver.holding_of_lt short, State.takeByte_payload (State.receiver_setReceiver s p _), State.setReceiver_setReceiver]

/-- The rest of a payload, byte by byte (R147). -/
theorem runCommands_payload (s : State) (p : Port) (kind len : Byte) (held bs : List Byte) (cs : List Instr)
    (rest : held.length + bs.length = len.toNat) :
    runCommands ((bs.map fun b => .linkByteReceived p b true) ++ cs) (s.setReceiver p (.holding kind len held)) =
      runCommands cs (s.setReceiver p (.check kind len (held ++ bs))) := by
  induction bs generalizing held with
  | nil => rw [List.append_nil, Receiver.holding_of_le (by simpa using rest.ge), List.map_nil, List.nil_append]
  | cons b bs ih =>
    rw [List.length_cons] at rest
    rw [List.map_cons, List.cons_append, runCommands_byte, s.takeByte_holding p (by omega), ih (held ++ [b]) (by simp; omega), List.append_assoc,
      List.singleton_append]

/-- Settles O46: SYNC, KIND and LEN move the receiver on, the payload gathers, and the CHECK hands the request over. -/
theorem frameBytesAreTheRequest : Obligations.FrameBytesAreTheRequest := by
  intro c s p r asked hunt
  have size := Laws.FrameSpelling.payload_length_le r
  generalize lenByte : BitVec.ofNat 8 r.payload.length = len
  have length : len.toNat = r.payload.length := by
    rw [← lenByte, BitVec.toNat_ofNat, Nat.mod_eq_of_lt (by omega)]
  have bytes : r.frame = 0xA5#8 :: r.kind :: len :: (r.payload ++ [checkByte r.kind len r.payload]) := by rw [← lenByte]; rfl
  rw [bytes, List.map_cons, List.map_cons, List.map_cons, List.map_append, runCommands_byte, runCommands_byte, runCommands_byte,
    State.takeByte_sync hunt, State.takeByte_kind (State.receiver_setReceiver s p _), State.setReceiver_setReceiver,
    State.takeByte_len (State.receiver_setReceiver s p _) (by omega), State.setReceiver_setReceiver,
    runCommands_payload s p r.kind len [] r.payload _ (by simp [length]), List.nil_append, List.map_singleton, runCommands_byte,
    State.takeByte_check (State.receiver_setReceiver s p _),
    State.receiveFrame_of_request (Laws.FrameSpelling.kind_isRequestKind r) (Request.decode_payload r), State.receive, State.acceptFrame_setReceiver,
    exec_of_request asked]
  rfl

end Sys2Proof.Machine
end

section
/-! The bytes of the messages that the part sends (O48). -/

namespace Sys2Proof.Machine

/-! ### Numbers, flags and codes in a payload -/

section Sent
variable {p : List Byte} {at_ n : Nat}

theorem carries_of_code {u v : Int} (sent : (p.drop at_).take n = bigEndian n u) (same : u = v) : carries p at_ n v := same ▸ carries_of_sent sent

/-- A field that a number was sent in is that number in two's complement (R157). -/
theorem field_of_bigEndian {v : Int} (sent : (p.drop at_).take n = bigEndian n v) : field p at_ n = BitVec.ofInt (8 * n) v := by
  have pos : (256 : Int) ^ n ≠ 0 := by positivity
  have cut : bigEndian n v = bigEndian n ((v % 256 ^ n).toNat : Nat) := by
    rw [Int.toNat_of_nonneg (Int.emod_nonneg v pos)]
    conv_lhs => rw [← Int.emod_add_mul_ediv v (256 ^ n), bigEndian_add_mul]
  have width : ((2 ^ (8 * n) : Nat) : Int) = 256 ^ n := by
    rw [two_pow_mul_eight]
    push_cast
    rfl
  refine BitVec.eq_of_toNat_eq ?_
  rw [field, sent, cut, BitVec.toNat_ofNat, readBytes_bigEndian, two_pow_mul_eight, Nat.mod_mod, BitVec.toNat_ofInt, width, Nat.mod_eq_of_lt]
  have below := Int.emod_lt_of_pos v (show (0 : Int) < 256 ^ n by positivity)
  exact_mod_cast (Int.toNat_lt (Int.emod_nonneg v pos)).2 (by exact_mod_cast below)

theorem toNat_field_of_bigEndian {v : Nat} (small : v < 256) (sent : (p.drop at_).take 1 = bigEndian 1 v) : (field p at_ 1).toNat = v := by
  rw [field_of_bigEndian sent, BitVec.ofInt_natCast, BitVec.toNat_ofNat, Nat.mod_eq_of_lt small]

end Sent

theorem flagByte_nil : (flagByte [] : Int) = 0 := rfl

/-- The flags of a byte stand at the powers of two (R157). -/
theorem flagByte_cons (flag : Bool) (flags : List Bool) : (flagByte (flag :: flags) : Int) = flagAt 1 flag + 2 * flagByte flags := by
  cases flag <;> simp [flagByte, flagAt]

theorem mul_flagAt (n position : Int) (flag : Bool) : n * flagAt position flag = flagAt (n * position) flag := by
  cases flag <;> simp [flagAt]

theorem orZero_eq (value : Option Int) : orZero value = value.getD 0 := by cases value <;> rfl

theorem portCode_eq (port : Option Port) : (portCode port : Int) = port.elim 255 fun p => (p.val : Int) := by cases port <;> rfl

theorem leadCode_eq (lead : Option ChannelIndex) : (leadCode lead : Int) = lead.elim 255 fun i => (i.val : Int) := by cases lead <;> rfl

theorem recallBytes_eq (u : Option Recall) :
    recallBytes u = bigEndian 3 (u.elim 0 fun u => u.value) ++ bigEndian 4 (u.elim 0 fun u => (u.firstSend.toNat : Int)) := by
  cases u <;> rfl

theorem modeCode_eq (m : Mode) : (m.code : Int) = modeCode m := by cases m <;> rfl

/-! ### The details of a notice -/

theorem Notice.code_lt (n : Notice) : n.code < 256 := by cases n <;> simp [Notice.code]

theorem Notice.length_detail (n : Notice) : n.detail.length = 4 := by cases n <;> rfl

theorem Notice.laidOut (n : Notice) : n.LaidOut := by
  cases n with
  | modeChange left entered =>
    exact ⟨⟨rfl, rfl⟩, carries_of_code (u := left.code) rfl (modeCode_eq left), carries_of_code (u := entered.code) rfl (modeCode_eq entered),
      carries_of_sent rfl⟩
  | meterLost channel missLimit => exact ⟨⟨rfl, rfl⟩, carries_of_sent rfl, carries_of_sent rfl, carries_of_sent rfl⟩
  | meterBack channel value => exact ⟨⟨rfl, rfl⟩, carries_of_sent rfl, carries_of_sent rfl⟩
  | portStale port cause committed =>
    refine ⟨⟨rfl, rfl⟩, carries_of_code (u := port.val + 16 * staleCode (some cause)) rfl ?_, carries_of_sent rfl⟩
    cases cause <;> rfl
  | excursion amount => exact ⟨⟨rfl, rfl⟩, carries_of_sent rfl⟩
  | windowConflict amount => exact ⟨⟨rfl, rfl⟩, carries_of_sent rfl⟩
  | compliance amount => exact ⟨⟨rfl, rfl⟩, carries_of_sent rfl⟩
  | portOverrun port output => exact ⟨⟨rfl, rfl⟩, carries_of_sent rfl, carries_of_sent rfl⟩
  | channelAlarm channel high value =>
    refine ⟨⟨rfl, rfl⟩, carries_of_code (u := channel.val + (if high then 16 else 0 : Nat)) rfl ?_, carries_of_sent rfl⟩
    cases high <;> rfl
  | listChange cause port held active =>
    refine ⟨⟨rfl, rfl⟩, carries_of_code (u := cause.code) rfl ?_, carries_of_code (u := portCode port) rfl (portCode_eq port), carries_of_sent rfl,
      carries_of_sent rfl⟩
    cases cause <;> rfl

/-! ### The data of a reply -/

theorem StatusData.laidOut (d : StatusData) : (ReplyData.status d).LaidOut := by
  rw [ReplyData.LaidOut, ReplyData.bytes, StatusData.bytes]
  simp only [List.append_assoc]
  refine ⟨rfl, carries_of_code (u := d.mode.code) rfl (modeCode_eq _), carries_of_code (u := d.cause.code) rfl ?_,
    carries_of_code (u := d.cause.portCode) rfl ?_, carries_of_code (u := d.check.code) rfl ?_, carries_of_sent rfl, carries_of_sent rfl,
    carries_of_sent rfl, carries_of_sent rfl, carries_of_sent rfl, carries_of_sent rfl, carries_of_sent rfl,
    carries_of_code (u := portCode d.activePort) rfl (portCode_eq _), carries_of_code (u := flagByte [d.latched]) rfl ?_⟩
  · cases d.cause <;> rfl
  · cases d.cause <;> rfl
  · cases d.check <;> rfl
  · rw [flagByte_cons, flagByte_nil, mul_zero, add_zero]

theorem PortRecord.length_bytes (c : PortConfig) (r : PortRecord) : (r.commonBytes c ++ r.roleBytes c).length = 58 := by
  have role : (r.roleBytes c).length = 32 := by
    unfold PortRecord.roleBytes
    cases c.role <;> rfl
  rw [List.length_append, role, PortRecord.commonBytes, recallBytes_eq]
  rfl

theorem PortRecord.laidOut (c : PortConfig) (r : PortRecord) : r.LaidOut c (r.commonBytes c ++ r.roleBytes c) := by
  rw [PortRecord.commonBytes, recallBytes_eq]
  simp only [List.append_assoc]
  refine ⟨carries_of_code (u := c.role.code) rfl ?_, carries_of_code (u := r.participation.code) rfl ?_, carries_of_code (u := staleCode r.cause) rfl ?_,
    carries_of_code (u := flagByte [r.lastSent.isSome, r.outstanding.isSome, r.staged.isSome, r.desired.isSome, r.overrun]) rfl ?_,
    carries_of_sent rfl, carries_of_code (u := orZero r.lastSent) rfl (orZero_eq _), carries_of_sent rfl, carries_of_sent rfl,
    carries_of_code (u := orZero r.staged) rfl (orZero_eq _), carries_of_code (u := orZero r.desired) rfl (orZero_eq _), carries_of_sent rfl,
    carries_of_sent rfl, ?_⟩
  · cases c.role <;> rfl
  · cases r.participation <;> rfl
  · rcases r.cause with _ | (_ | _) <;> rfl
  · norm_num [flagByte_cons, flagByte_nil, mul_add, mul_flagAt, add_assoc]
  · obtain ⟨role, rated, fallback, lead, ratedCharge, reserve⟩ := c
    cases role with
    | cluster =>
      exact ⟨carries_of_sent rfl, carries_of_sent rfl, carries_of_code (u := leadCode lead) rfl (leadCode_eq lead), carries_of_sent rfl,
        carries_of_sent rfl, carries_of_sent rfl, carries_of_sent rfl⟩
    | storage =>
      exact ⟨carries_of_sent rfl, carries_of_sent rfl, carries_of_sent rfl, carries_of_sent rfl, carries_of_sent rfl, carries_of_sent rfl,
        carries_of_sent rfl, carries_of_sent rfl, carries_of_sent rfl, carries_of_sent rfl⟩
    | unused => exact carries_of_sent rfl
    | supervisor => exact carries_of_sent rfl

/-- A HISTORY slot, with anything after it (R39, R157). -/
theorem historySlot_laidOut (slot : Option FrameRecord) (rest : List Byte) : slotLaidOut slot (historySlot slot ++ rest) 0 := by
  cases slot with
  | none => exact carries_of_sent rfl
  | some r =>
    rw [historySlot]
    simp only [List.append_assoc]
    refine ⟨carries_of_code (u := flagByte [true, r.measured.isSome]) rfl ?_, carries_of_sent rfl, carries_of_sent rfl, carries_of_sent rfl,
      carries_of_code (u := orZero r.measured) rfl (orZero_eq _), carries_of_sent rfl, carries_of_code (u := r.marks.byte) rfl ?_⟩
    · norm_num [flagByte_cons, flagByte_nil, mul_flagAt, flagAt]
    · norm_num [Marks.byte, flagByte_cons, flagByte_nil, mul_add, mul_flagAt, add_assoc]

theorem length_historySlot (slot : Option FrameRecord) : (historySlot slot).length = 18 := by cases slot <;> rfl

/-- Bytes before a payload move every place in it by their number. -/
theorem carries_append {front p : List Byte} {at_ n : Nat} {v : Int} : carries (front ++ p) (front.length + at_) n v ↔ carries p at_ n v := by
  rw [carries, carries, ← List.drop_drop, List.drop_left]

theorem slotLaidOut_append {slot : Option FrameRecord} {front p : List Byte} :
    slotLaidOut slot (front ++ p) front.length ↔ slotLaidOut slot p 0 := by
  cases slot with
  | none => exact carries_append (at_ := 0)
  | some r => exact and_congr (carries_append (at_ := 0)) (by simp only [carries_append, zero_add])

theorem Channel.laidOut (c : Channel) : (ReplyData.channel c).LaidOut := by
  rw [ReplyData.LaidOut, ReplyData.bytes, Channel.bytes]
  simp only [List.append_assoc]
  refine ⟨rfl, carries_of_code (u := c.config.kind.code) rfl ?_, carries_of_code (u := c.state.code) rfl ?_,
    carries_of_code (u := flagByte [c.value.isSome, c.lowAlarm, c.highAlarm]) rfl ?_, carries_of_code (u := orZero c.value) rfl (orZero_eq _),
    carries_of_sent rfl, carries_of_sent rfl⟩
  · cases c.config.kind <;> rfl
  · cases c.state <;> rfl
  · norm_num [flagByte_cons, flagByte_nil, mul_add, mul_flagAt, add_assoc]

/-- The profile block of a LIST slot, behind the three bytes of its reply (R54, R157). -/
theorem Profile.laidOut (p : Profile) (x y z : Byte) (rest : List Byte) : p.LaidOut (x :: y :: z :: (p.bytes ++ rest)) 3 := by
  rw [Profile.bytes]
  simp only [List.append_assoc]
  refine ⟨carries_of_sent rfl, carries_of_sent rfl, carries_of_sent rfl, carries_of_sent rfl, carries_of_sent rfl, carries_of_sent rfl,
    carries_of_code (u := p.flags) rfl ?_, carries_of_sent rfl, carries_of_sent rfl⟩
  norm_num [Profile.flags, flagByte_cons, flagByte_nil, mul_add, mul_flagAt, add_assoc]

theorem ListSlot.laidOut (held active : Nat) (slot : ListSlot) : (ReplyData.list held active slot).LaidOut := by
  cases slot with
  | absent => exact ⟨rfl, carries_of_sent rfl, carries_of_sent rfl, carries_of_sent rfl⟩
  | default p =>
    rw [ReplyData.LaidOut, ReplyData.bytes, ListSlot.bytes]
    simp only [List.append_assoc]
    refine ⟨rfl, carries_of_sent rfl, carries_of_sent rfl, carries_of_sent rfl, p.laidOut _ _ _ _, carries_of_sent rfl⟩
  | entry e =>
    rw [ReplyData.LaidOut, ReplyData.bytes, ListSlot.bytes]
    simp only [List.append_assoc]
    refine ⟨rfl, carries_of_sent rfl, carries_of_sent rfl, carries_of_sent rfl, e.profile.laidOut _ _ _ _, carries_of_sent rfl, carries_of_sent rfl,
      carries_of_sent rfl, carries_of_code (u := e.state.code) rfl ?_, carries_of_sent rfl⟩
    cases e.state <;> rfl

theorem length_words (values : List Nat) : (values.flatMap fun v : Nat => bigEndian 2 v).length = 2 * values.length := by
  induction values with
  | nil => rfl
  | cons v values ih =>
    rw [List.flatMap_cons, List.length_append, ih, Laws.FrameSpelling.length_bigEndian, List.length_cons]
    omega

theorem bytes_counters (values : List Nat) :
    (ReplyData.counters values).bytes = (values.flatMap fun v : Nat => bigEndian 2 v) ++ bigEndian (48 - 2 * values.length) 0 := by
  simp [ReplyData.bytes, List.flatMap_assoc]

/-- The counters two bytes each, and the unused rest (R157). -/
theorem counters_laidOut (values : List Nat) : (ReplyData.counters values).LaidOut := by
  intro fits
  refine ⟨?_, fun k v found => ?_, ?_⟩
  · rw [bytes_counters, List.length_append, length_words, Laws.FrameSpelling.length_bigEndian]
    omega
  · obtain ⟨inside, rfl⟩ := List.getElem?_eq_some_iff.1 found
    have split : values = values.take k ++ values[k] :: values.drop (k + 1) := by rw [List.getElem_cons_drop, List.take_append_drop]
    have before : ((values.take k).flatMap fun v : Nat => bigEndian 2 v).length = 2 * k := by
      rw [length_words, List.length_take, Nat.min_eq_left inside.le]
    have bytes : (ReplyData.counters values).bytes = ((values.take k).flatMap fun v : Nat => bigEndian 2 v) ++ (bigEndian 2 values[k] ++
        (((values.drop (k + 1)).flatMap fun v : Nat => bigEndian 2 v) ++ bigEndian (48 - 2 * values.length) 0)) := by
      rw [bytes_counters]
      conv_lhs => rw [split, List.flatMap_append, List.flatMap_cons, ← split]
      rw [List.append_assoc, List.append_assoc]
    rw [bytes, ← before]
    exact carries_bigEndian _ _ _ _
  · have zeros := carries_bigEndian (values.flatMap fun v : Nat => bigEndian 2 v) [] (48 - 2 * values.length) 0
    rwa [length_words, List.append_nil, ← bytes_counters] at zeros

theorem ReplyData.laidOut (data : ReplyData) : data.LaidOut := by
  cases data with
  | status d => exact d.laidOut
  | port c r => exact ⟨r.length_bytes c, r.laidOut c⟩
  | history first second =>
    have front := length_historySlot first
    refine ⟨?_, historySlot_laidOut first _, ?_⟩
    · rw [ReplyData.bytes, List.length_append, front, length_historySlot]
    · rw [ReplyData.bytes, ← front, slotLaidOut_append, ← List.append_nil (historySlot second)]
      exact historySlot_laidOut second []
  | channel c => exact c.laidOut
  | list held active slot => exact slot.laidOut held active
  | counters values => exact counters_laidOut values

/-- The lengths of the data of each target (R157). -/
theorem ReplyData.length_bytes (data : ReplyData) (few : ∀ values, data = .counters values → values.length ≤ 24) :
    data.bytes.length = match data with
      | .status _ => 31 | .port .. => 58 | .history .. => 36 | .channel _ => 11 | .list .. => 36 | .counters _ => 48 := by
  have laid := data.laidOut
  cases data with
  | counters values => exact (laid (few values rfl)).1
  | status | port | history | channel | list => exact laid.1

/-! ### The messages -/

/-- A CHECK makes the exclusive-or of a frame from KIND on 0 (R146). -/
theorem frame_xor (kind : Byte) (payload : List Byte) : ((frameBytes kind payload).drop 1).foldl (· ^^^ ·) 0#8 = 0#8 := by
  rw [frameBytes, List.drop_succ_cons, List.drop_zero, List.foldl_cons, List.foldl_cons, List.foldl_append, List.foldl_cons, List.foldl_nil,
    checkByte, foldl_xor, BitVec.zero_xor]
  exact BitVec.xor_self

/-- Settles O48: each kind of message by its fields, the data of each reply target, and the frame around them. -/
theorem messagesHaveTheirLayout : Obligations.MessagesHaveTheirLayout := by
  refine ⟨fun action value frame low high => ⟨rfl, ?_, ?_, ?_⟩, fun kind clamped restart => ?_, fun kind reason => ?_, fun count n most => ⟨?_, ?_, ?_, ?_⟩,
    fun index data => ?_, Notice.laidOut, ReplyData.laidOut, fun m => ?_, fun m => ⟨⟨checkByte m.kind _ m.payload, rfl⟩, frame_xor m.kind m.payload⟩⟩
  · cases action <;> rfl
  · rw [field_of_bigEndian (v := value) rfl, BitVec.toInt_ofInt_eq_self (by norm_num) (by norm_num; exact low) (by norm_num; omega)]
  · exact field_of_sent rfl
  · cases clamped <;> rfl
  · cases reason <;> rfl
  · rw [Message.payload, List.length_append, n.length_detail]
    rfl
  · exact toNat_field_of_bigEndian n.code_lt rfl
  · exact toNat_field_of_bigEndian (by omega) rfl
  · rfl
  · intro p body few
    have length := data.length_bytes few
    refine ⟨?_, ?_, field_of_sent rfl, rfl⟩
    · have bytes : p.length = 3 + data.bytes.length := by
        simp only [p, Message.payload, List.length_append, Laws.FrameSpelling.length_bigEndian, Laws.FrameSpelling.length_sendField]
      rw [bytes, length]
      cases data <;> rfl
    · refine (toNat_field_of_bigEndian (v := data.target) ?_ rfl).trans ?_
      · cases data <;> simp [ReplyData.target]
      · cases data <;> rfl
  · cases m <;> rfl

end Sys2Proof.Machine
end

section
/-! The period of the sweep LFSR (O37). -/

namespace Sys2Proof.Machine

/-! ### The register as a linear recurrence -/

theorem lfsrStep_zero : lfsrStep 0 = 0 := rfl

theorem lfsrStep_xor (a b : BitVec 16) : lfsrStep (a ^^^ b) = lfsrStep a ^^^ lfsrStep b := by
  have feedback (p q : Bool) (c : BitVec 16) : (if (p ^^ q) = true then c else 0#16) = (if p = true then c else 0#16) ^^^ (if q = true then c else 0#16) := by
    cases p <;> cases q <;> simp
  rw [lfsrStep_eq, lfsrStep_eq, lfsrStep_eq, BitVec.ushiftRight_xor_distrib, BitVec.getLsbD_xor, feedback]
  ac_rfl

theorem iterate_lfsrStep_zero (n : Nat) : lfsrStep^[n] 0 = 0 := Function.iterate_fixed lfsrStep_zero n

theorem iterate_lfsrStep_xor (n : Nat) (a b : BitVec 16) : lfsrStep^[n] (a ^^^ b) = lfsrStep^[n] a ^^^ lfsrStep^[n] b :=
  Function.Semiconj₂.iterate (fun a b => lfsrStep_xor a b) n a b

/-- One bit of a sum of successors of `w`: the sum so far moves on, and `w` joins it where the bit is set. -/
def lfsrGather (v w : BitVec 16) (sum : BitVec 16) (j : Nat) : BitVec 16 := lfsrStep sum ^^^ if v.getLsbD j then w else 0

/-- The sum of the successors of `w` that the bits of `v` name: the top bit names `w` itself, each bit below it the next successor. -/
def lfsrProduct (v w : BitVec 16) : BitVec 16 := (List.range 16).foldl (lfsrGather v w) 0

/-- The register's top bit, of which every register is a sum of successors. -/
def lfsrTop : BitVec 16 := 0x8000#16

theorem iterate_lfsrGather (n : Nat) (v w sum : BitVec 16) (j : Nat) :
    lfsrStep^[n] (lfsrGather v w sum j) = lfsrGather v (lfsrStep^[n] w) (lfsrStep^[n] sum) j := by
  rw [lfsrGather, lfsrGather, iterate_lfsrStep_xor, Function.Commute.iterate_left (fun _ => rfl) n sum, apply_ite (lfsrStep^[n]), iterate_lfsrStep_zero]

theorem iterate_lfsrProduct (n : Nat) (v w : BitVec 16) : lfsrStep^[n] (lfsrProduct v w) = lfsrProduct v (lfsrStep^[n] w) := by
  have moved (js : List Nat) (sum : BitVec 16) :
      lfsrStep^[n] (js.foldl (lfsrGather v w) sum) = js.foldl (lfsrGather v (lfsrStep^[n] w)) (lfsrStep^[n] sum) := by
    induction js generalizing sum with
    | nil => rfl
    | cons j js ih => rw [List.foldl_cons, ih, iterate_lfsrGather, List.foldl_cons]
  rw [lfsrProduct, moved, iterate_lfsrStep_zero, lfsrProduct]

theorem getLsbD_ite_top (b : Bool) (i : Nat) : (if b = true then lfsrTop else 0).getLsbD i = (b && decide (i = 15)) := by
  have top : lfsrTop = BitVec.twoPow 16 15 := rfl
  cases b with
  | false => simp
  | true =>
    by_cases last : i = 15
    · subst last
      rfl
    · simp [top, last, eq_comm]

/-- The bits of `v` come in from the top, lowest first. -/
theorem lfsrGather_top (v : BitVec 16) {j : Nat} (inside : j < 16) : lfsrGather v lfsrTop (v <<< (16 - j)) j = v <<< (15 - j) := by
  have even : (v <<< (16 - j)).getLsbD 0 = false := by simp [inside]
  have moved : lfsrStep (v <<< (16 - j)) = (v <<< (16 - j)) >>> 1 := by rw [lfsrStep, even]; rfl
  rw [lfsrGather, moved]
  refine BitVec.eq_of_getLsbD_eq fun i hi => ?_
  rw [BitVec.getLsbD_xor, getLsbD_ite_top, BitVec.getLsbD_ushiftRight, BitVec.getLsbD_shiftLeft, BitVec.getLsbD_shiftLeft]
  by_cases last : i = 15
  · subst last
    have bit : 15 - (15 - j) = j := by omega
    simp [bit]
  · have places : 1 + i - (16 - j) = i - (15 - j) := by omega
    have below : 1 + i < 16 := by omega
    have margin : 1 + i < 16 - j ↔ i < 15 - j := by omega
    simp [last, places, below, margin, hi]

theorem lfsrProduct_top (v : BitVec 16) : lfsrProduct v lfsrTop = v := by
  have gathered (n : Nat) (few : n ≤ 16) : (List.range n).foldl (lfsrGather v lfsrTop) 0 = v <<< (16 - n) := by
    induction n with
    | zero =>
      have none : v <<< 16 = 0#16 := BitVec.eq_of_getLsbD_eq fun i hi => by rw [BitVec.getLsbD_shiftLeft, decide_eq_true hi]; simp
      exact none.symm
    | succ n ih =>
      have left : 15 - n = 16 - (n + 1) := by omega
      rw [List.range_succ, List.foldl_append, ih (by omega), List.foldl_cons, List.foldl_nil, lfsrGather_top v (by omega), left]
  rw [lfsrProduct, gathered 16 le_rfl, Nat.sub_self, BitVec.shiftLeft_zero]

/-- The successors of a register are products with the successors of the top bit. -/
theorem iterate_lfsrStep_eq (n : Nat) (v : BitVec 16) : lfsrStep^[n] v = lfsrProduct v (lfsrStep^[n] lfsrTop) := by
  rw [← iterate_lfsrProduct, lfsrProduct_top]

theorem iterate_add_top {m n : Nat} {v w x : BitVec 16} (first : lfsrStep^[m] lfsrTop = v) (second : lfsrStep^[n] lfsrTop = w)
    (product : lfsrProduct w v = x) : lfsrStep^[m + n] lfsrTop = x := by
  rw [Function.iterate_add_apply, second, iterate_lfsrStep_eq, first, product]

/-! ### The period of the top bit -/

/-- The top bit comes back after 65,535 steps and after no 65,535 / q of them, q prime: the exponents are reached by sums of exponents before. -/
theorem lfsrTop_landmarks : lfsrStep^[65535] lfsrTop = lfsrTop ∧ lfsrStep^[21845] lfsrTop ≠ lfsrTop ∧ lfsrStep^[13107] lfsrTop ≠ lfsrTop ∧
    lfsrStep^[3855] lfsrTop ≠ lfsrTop ∧ lfsrStep^[255] lfsrTop ≠ lfsrTop := by
  have p1 : lfsrStep^[1] lfsrTop = 0x4000#16 := by decide
  have p2 := iterate_add_top (x := 0x2000#16) p1 p1 (by simp [lfsrProduct, List.range_succ, lfsrGather, lfsrStep])
  have p3 := iterate_add_top (x := 0x1000#16) p2 p1 (by simp [lfsrProduct, List.range_succ, lfsrGather, lfsrStep])
  have p6 := iterate_add_top (x := 0x0200#16) p3 p3 (by simp [lfsrProduct, List.range_succ, lfsrGather, lfsrStep])
  have p12 := iterate_add_top (x := 0x0008#16) p6 p6 (by simp [lfsrProduct, List.range_succ, lfsrGather, lfsrStep])
  have p15 := iterate_add_top (x := 0x0001#16) p12 p3 (by simp [lfsrProduct, List.range_succ, lfsrGather, lfsrStep])
  have p30 := iterate_add_top (x := 0xF882#16) p15 p15 (by simp [lfsrProduct, List.range_succ, lfsrGather, lfsrStep])
  have p60 := iterate_add_top (x := 0x448B#16) p30 p30 (by simp [lfsrProduct, List.range_succ, lfsrGather, lfsrStep])
  have p120 := iterate_add_top (x := 0x361D#16) p60 p60 (by simp [lfsrProduct, List.range_succ, lfsrGather, lfsrStep])
  have p240 := iterate_add_top (x := 0xF0E3#16) p120 p120 (by simp [lfsrProduct, List.range_succ, lfsrGather, lfsrStep])
  have p255 := iterate_add_top (x := 0xA300#16) p240 p15 (by simp [lfsrProduct, List.range_succ, lfsrGather, lfsrStep])
  have p257 := iterate_add_top (x := 0x28C0#16) p255 p2 (by simp [lfsrProduct, List.range_succ, lfsrGather, lfsrStep])
  have p514 := iterate_add_top (x := 0x9180#16) p257 p257 (by simp [lfsrProduct, List.range_succ, lfsrGather, lfsrStep])
  have p771 := iterate_add_top (x := 0x77A1#16) p514 p257 (by simp [lfsrProduct, List.range_succ, lfsrGather, lfsrStep])
  have p1542 := iterate_add_top (x := 0x6DE8#16) p771 p771 (by simp [lfsrProduct, List.range_succ, lfsrGather, lfsrStep])
  have p3084 := iterate_add_top (x := 0xBA56#16) p1542 p1542 (by simp [lfsrProduct, List.range_succ, lfsrGather, lfsrStep])
  have p3855 := iterate_add_top (x := 0x2D35#16) p3084 p771 (by simp [lfsrProduct, List.range_succ, lfsrGather, lfsrStep])
  have p4112 := iterate_add_top (x := 0x8BC9#16) p3855 p257 (by simp [lfsrProduct, List.range_succ, lfsrGather, lfsrStep])
  have p4369 := iterate_add_top (x := 0xF03C#16) p4112 p257 (by simp [lfsrProduct, List.range_succ, lfsrGather, lfsrStep])
  have p8738 := iterate_add_top (x := 0xA309#16) p4369 p4369 (by simp [lfsrProduct, List.range_succ, lfsrGather, lfsrStep])
  have p13107 := iterate_add_top (x := 0x5F61#16) p8738 p4369 (by simp [lfsrProduct, List.range_succ, lfsrGather, lfsrStep])
  have p21845 := iterate_add_top (x := 0x5335#16) p13107 p8738 (by simp [lfsrProduct, List.range_succ, lfsrGather, lfsrStep])
  have p43690 := iterate_add_top (x := 0xD335#16) p21845 p21845 (by simp [lfsrProduct, List.range_succ, lfsrGather, lfsrStep])
  have p65535 := iterate_add_top (x := 0x8000#16) p43690 p21845 (by simp [lfsrProduct, List.range_succ, lfsrGather, lfsrStep])
  refine ⟨p65535, ?_, ?_, ?_, ?_⟩
  · rw [p21845]; decide
  · rw [p13107]; decide
  · rw [p3855]; decide
  · rw [p255]; decide

/-- A proper divisor of 65,535 leaves out one of its primes. -/
theorem dvd_of_dvd_of_ne {d : Nat} (divides : d ∣ 65535) (proper : d ≠ 65535) : d ∣ 21845 ∨ d ∣ 13107 ∨ d ∣ 3855 ∨ d ∣ 255 := by
  obtain ⟨k, factors⟩ := divides
  have notOne : k ≠ 1 := by
    rintro rfl
    omega
  obtain ⟨q, prime, rest, rfl⟩ := Nat.exists_prime_and_dvd notOne
  have among : q ∣ 3 * (5 * (17 * 257)) := ⟨d * rest, by linarith [mul_left_comm d q rest]⟩
  rw [prime.dvd_mul, prime.dvd_mul, prime.dvd_mul, Nat.prime_dvd_prime_iff_eq prime (by norm_num), Nat.prime_dvd_prime_iff_eq prime (by norm_num),
    Nat.prime_dvd_prime_iff_eq prime (by norm_num), Nat.prime_dvd_prime_iff_eq prime (by norm_num)] at among
  rcases among with rfl | rfl | rfl | rfl
  · exact .inl ⟨rest, by linarith⟩
  · exact .inr (.inl ⟨rest, by linarith⟩)
  · exact .inr (.inr (.inl ⟨rest, by linarith⟩))
  · exact .inr (.inr (.inr ⟨rest, by linarith⟩))

theorem minimalPeriod_lfsrTop : Function.minimalPeriod lfsrStep lfsrTop = 65535 := by
  obtain ⟨returns, apart₃, apart₅, apart₁₇, apart₂₅₇⟩ := lfsrTop_landmarks
  by_contra proper
  have period := Function.isPeriodicPt_minimalPeriod lfsrStep lfsrTop
  rcases dvd_of_dvd_of_ne (Function.IsPeriodicPt.minimalPeriod_dvd returns) proper with through | through | through | through
  · exact apart₃ (period.trans_dvd through)
  · exact apart₅ (period.trans_dvd through)
  · exact apart₁₇ (period.trans_dvd through)
  · exact apart₂₅₇ (period.trans_dvd through)

/-! ### The orbit of the top bit is every register that is not 0 -/

theorem iterate_lfsrStep_ne_zero {r : BitVec 16} (nonzero : r ≠ 0) (n : Nat) : lfsrStep^[n] r ≠ 0 := by
  induction n with
  | zero => exact nonzero
  | succ n ih =>
    rw [Function.iterate_succ_apply']
    exact lfsrStep_ne_zero ih

/-- The 65,535 registers before the top bit comes back are different and not 0, and there are no more than that. -/
theorem exists_iterate_lfsrTop {r : BitVec 16} (nonzero : r ≠ 0) : ∃ n, lfsrStep^[n] lfsrTop = r := by
  have number {v : BitVec 16} (other : v ≠ 0) : v.toNat ∈ Finset.Ico 1 65536 :=
    Finset.mem_Ico.2 ⟨Nat.pos_of_ne_zero fun zero => other (BitVec.eq_of_toNat_eq zero), v.isLt⟩
  have different := Function.iterate_injOn_Iio_minimalPeriod (f := lfsrStep) (x := lfsrTop)
  rw [minimalPeriod_lfsrTop] at different
  have onto := Finset.surjOn_of_injOn_of_card_le (s := Finset.range 65535) (t := Finset.Ico 1 65536) (fun n => (lfsrStep^[n] lfsrTop).toNat)
    (fun n _ => number (iterate_lfsrStep_ne_zero (by decide) n))
    (fun m first n second same => different (by simpa using first) (by simpa using second) (BitVec.eq_of_toNat_eq same)) (by simp)
  obtain ⟨n, _, reached⟩ := onto (number nonzero)
  exact ⟨n, BitVec.eq_of_toNat_eq reached⟩

/-- Settles O37: every register but 0 lies on the orbit of the top bit, and so has its period. -/
theorem sweepLfsrHasFullPeriod : Obligations.SweepLfsrHasFullPeriod := by
  refine ⟨fun r => ?_, fun r => lfsrStep_ne_zero, fun r nonzero => ?_⟩
  · rw [lfsrStep_eq]
    congr 1
    simp [BitVec.getLsbD, Nat.testBit_zero]
  · obtain ⟨n, rfl⟩ := exists_iterate_lfsrTop nonzero
    have periodic : lfsrTop ∈ Function.periodicPts lfsrStep := Function.mk_mem_periodicPts (by decide) lfsrTop_landmarks.1
    have period := (Function.minimalPeriod_apply_iterate periodic n).trans minimalPeriod_lfsrTop
    refine ⟨?_, fun k positive below => ?_⟩
    · exact period ▸ Function.isPeriodicPt_minimalPeriod lfsrStep (lfsrStep^[n] lfsrTop)
    · exact Function.not_isPeriodicPt_of_pos_of_lt_minimalPeriod (by omega) (by rwa [period])

end Sys2Proof.Machine
end

section
/-! The configuration image (O6). -/

namespace Sys2Proof.Machine

/-! ### The CRC bit by bit -/

theorem crc16_eq (bytes : List Byte) : crc16 bytes = (bitsOf bytes).foldl crcShift 0xFFFF#16 := by
  have byte (crc : BitVec 16) (b : Byte) : crcByte crc b = ([7, 6, 5, 4, 3, 2, 1, 0].map b.getLsbD).foldl crcShift crc := by
    rw [crcByte_eq, List.foldl_map]
  rw [crc16, bitsOf, List.foldl_flatMap, funext fun crc => funext (byte crc)]

/-! ### The records -/

/-- The requests an image's records spell (R135). -/
theorem isRecord_cases {r : Request} (record : 0x23#8 ≤ r.kind ∧ r.kind ≤ 0x26#8) :
    (∃ f, r = .setSite f) ∨ (∃ f, r = .setPort f) ∨ (∃ f, r = .setChan f) ∨ ∃ b, r = .setProf b := by
  cases r with
  | setSite f => exact .inl ⟨f, rfl⟩
  | setPort f => exact .inr (.inl ⟨f, rfl⟩)
  | setChan f => exact .inr (.inr (.inl ⟨f, rfl⟩))
  | setProf b => exact .inr (.inr (.inr ⟨b, rfl⟩))
  | join | reportCluster | reportStorage | yield | leave | push | drop | query | mode | clear | restart => simp [Request.kind] at record

theorem recordLength_kind {r : Request} (record : 0x23#8 ≤ r.kind ∧ r.kind ≤ 0x26#8) : recordLength r.kind = some r.payload.length := by
  rcases isRecord_cases record with ⟨f, rfl⟩ | ⟨f, rfl⟩ | ⟨f, rfl⟩ | ⟨b, rfl⟩ <;> rfl

theorem recordLength_eq_some_iff {kind : Byte} {n : Nat} :
    recordLength kind = some n ↔ (kind, n) ∈ ([(0x23#8, 21), (0x24#8, 19), (0x25#8, 24), (0x26#8, 26)] : List (Byte × Nat)) := by
  unfold recordLength
  split_ifs <;> simp_all [eq_comm]

section Staged
variable {fuel n : Nat} {c c' : Configuration} {r : Request} {kind : Byte} {rest : List Byte}

theorem not_payload_short (r : Request) (rest : List Byte) : ¬(r.payload ++ rest).length < r.payload.length := by
  rw [List.length_append]
  omega

/-- A record is read back as the request it was built from, and staged (R136). -/
theorem stageRecords_of_fits (record : 0x23#8 ≤ r.kind ∧ r.kind ≤ 0x26#8) (fits : c.stage r = some c') :
    stageRecords (fuel + 1) c (r.kind :: (r.payload ++ rest)) = stageRecords fuel c' rest := by
  simp only [stageRecords, recordLength_kind record, if_neg (not_payload_short r rest), List.take_left, List.drop_left, Request.decode_payload,
    Option.bind_some, fits]

theorem stageRecords_of_unfit (record : 0x23#8 ≤ r.kind ∧ r.kind ≤ 0x26#8) (unfit : c.stage r = none) :
    stageRecords (fuel + 1) c (r.kind :: (r.payload ++ rest)) = .error .range := by
  simp only [stageRecords, recordLength_kind record, if_neg (not_payload_short r rest), List.take_left, Request.decode_payload, Option.bind_some, unfit]

theorem stageRecords_of_otherKind (other : recordLength kind = none) : stageRecords (fuel + 1) c (kind :: rest) = .error .record := by
  simp only [stageRecords, other]

theorem stageRecords_of_short (known : recordLength kind = some n) (short : rest.length < n) :
    stageRecords (fuel + 1) c (kind :: rest) = .error .record := by
  simp only [stageRecords, known, if_pos short]

theorem stageRecords_nil (fuel : Nat) (c : Configuration) : stageRecords fuel c [] = .ok c := by cases fuel <;> rfl

end Staged

/-- Records in their order: the first out of range fails the image, and else what follows them is judged on what they staged (R136). -/
theorem stageRecords_imageRecords {rs : List Request} (records : ∀ r ∈ rs, 0x23#8 ≤ r.kind ∧ r.kind ≤ 0x26#8) (rest : List Byte) (fuel : Nat)
    (c : Configuration) (enough : (imageRecords rs ++ rest).length ≤ fuel) :
    (rs.foldlM Configuration.stage c = none → stageRecords fuel c (imageRecords rs ++ rest) = .error .range) ∧
      ∀ c', rs.foldlM Configuration.stage c = some c' →
        ∃ left, rest.length ≤ left ∧ stageRecords fuel c (imageRecords rs ++ rest) = stageRecords left c' rest := by
  induction rs generalizing fuel c with
  | nil => exact ⟨nofun, fun c' same => ⟨fuel, enough, by cases same; rfl⟩⟩
  | cons r rs ih =>
    have record := records r List.mem_cons_self
    have bytes : imageRecords (r :: rs) ++ rest = r.kind :: (r.payload ++ (imageRecords rs ++ rest)) := by
      rw [imageRecords, List.flatMap_cons, List.cons_append, List.cons_append, List.append_assoc]
      rfl
    rw [bytes, List.length_cons, List.length_append] at enough
    obtain ⟨fuel, rfl⟩ : ∃ n, fuel = n + 1 := ⟨fuel - 1, by omega⟩
    rw [bytes, List.foldlM_cons, Option.bind_eq_bind]
    rcases fits : c.stage r with _ | c₁
    · rw [Option.bind_none]
      exact ⟨fun _ => stageRecords_of_unfit record fits, fun c' staged => (Option.some_ne_none c' staged.symm).elim⟩
    · rw [Option.bind_some, stageRecords_of_fits record fits]
      exact ih (fun r' among => records r' (List.mem_cons_of_mem _ among)) fuel c₁ (by omega)

/-! ### The judgement -/

/-- What an image whose frame is in order is judged to: the cross-checks judge what its records staged (R136). -/
def judged : Except CheckResult Configuration → Except CheckResult Configuration
  | .error e => .error e
  | .ok c => if c.crossCheck = .passed then .ok c else .error c.crossCheck

/-- The length an image says it has (R135). -/
def imageLength (memory : List Byte) : Nat := (field (memoryBytes memory 3) 1 2).toNat

theorem take_memoryBytes (memory : List Byte) (n : Nat) : (memoryBytes memory n).take (n - 2) = memoryBytes memory (n - 2) := by
  rw [memoryBytes, ← List.map_take, List.take_range, Nat.min_eq_left (Nat.sub_le n 2), memoryBytes]

/-- The judgement in the order of its checks (R135, R136). -/
theorem judgeImage_eq (memory : List Byte) : judgeImage memory =
    if memoryByte memory 0 ≠ 1#8 then .error .format
    else if imageLength memory < 5 ∨ 2048 < imageLength memory then .error .length
    else if crc16 (memoryBytes memory (imageLength memory - 2)) ≠ field (memoryBytes memory (imageLength memory)) (imageLength memory - 2) 2 then
      .error .crc
    else judged (stageRecords (imageLength memory) Configuration.start ((memoryBytes memory (imageLength memory - 2)).drop 3)) := by
  rw [← take_memoryBytes]
  rfl

section Judged
variable {memory : List Byte}

theorem judgeImage_of_format (other : memoryByte memory 0 ≠ 1#8) : judgeImage memory = .error .format := by rw [judgeImage_eq, if_pos other]

section Formed
variable (format : memoryByte memory 0 = 1#8)
include format

theorem judgeImage_of_length (outside : imageLength memory < 5 ∨ 2048 < imageLength memory) : judgeImage memory = .error .length := by
  rw [judgeImage_eq, if_neg (not_not.2 format), if_pos outside]

variable (least : 5 ≤ imageLength memory) (most : imageLength memory ≤ 2048)
include least most

theorem judgeImage_of_crc (other : crc16 (memoryBytes memory (imageLength memory - 2)) ≠ field (memoryBytes memory (imageLength memory)) (imageLength memory - 2) 2) :
    judgeImage memory = .error .crc := by
  rw [judgeImage_eq, if_neg (not_not.2 format), if_neg (by omega), if_pos other]

theorem judgeImage_of_matching (matching : crc16 (memoryBytes memory (imageLength memory - 2)) = field (memoryBytes memory (imageLength memory)) (imageLength memory - 2) 2) :
    judgeImage memory = judged (stageRecords (imageLength memory) Configuration.start ((memoryBytes memory (imageLength memory - 2)).drop 3)) := by
  rw [judgeImage_eq, if_neg (not_not.2 format), if_neg (by omega), if_neg (not_not.2 matching)]

variable (matching : crc16 (memoryBytes memory (imageLength memory - 2)) = field (memoryBytes memory (imageLength memory)) (imageLength memory - 2) 2)
  {rs : List Request} (records : ∀ r ∈ rs, 0x23#8 ≤ r.kind ∧ r.kind ≤ 0x26#8) {rest : List Byte}
  (body : (memoryBytes memory (imageLength memory - 2)).drop 3 = imageRecords rs ++ rest)
include matching records body

/-- An image whose records are requests and then `rest` (R136). -/
theorem judgeImage_of_records :
    (rs.foldlM Configuration.stage Configuration.start = none → judgeImage memory = .error .range) ∧
      ∀ c, rs.foldlM Configuration.stage Configuration.start = some c →
        ∃ left, rest.length ≤ left ∧ judgeImage memory = judged (stageRecords left c rest) := by
  have enough : (imageRecords rs ++ rest).length ≤ imageLength memory := by
    rw [← body, List.length_drop, memoryBytes, List.length_map, List.length_range]
    omega
  obtain ⟨unfit, fits⟩ := stageRecords_imageRecords records rest (imageLength memory) Configuration.start enough
  rw [judgeImage_of_matching format least most matching, body]
  refine ⟨fun range => by rw [unfit range]; rfl, fun c staged => ?_⟩
  obtain ⟨left, room, eq⟩ := fits c staged
  exact ⟨left, room, by rw [eq]⟩

end Formed
end Judged

/-! ### An image's own bytes -/

theorem memoryBytes_eq_take {memory : List Byte} {n : Nat} (supplied : n ≤ memory.length) : memoryBytes memory n = memory.take n := by
  refine List.ext_getElem (by simp [memoryBytes, supplied]) fun i inside _ => ?_
  have below : i < n := by simpa [memoryBytes] using inside
  simp [memoryBytes, memoryByte, List.getElem?_eq_getElem (show i < memory.length by omega)]

/-- A field of two bytes (R157). -/
theorem toNat_field_two {p : List Byte} {at_ : Nat} {x y : Byte} (sent : (p.drop at_).take 2 = [x, y]) :
    (field p at_ 2).toNat = 256 * x.toNat + y.toNat := by
  have high := x.isLt
  have low := y.isLt
  have number : readBytes [x, y] = 256 * x.toNat + y.toNat := by
    simp only [readBytes, List.foldl]
    omega
  rw [field, BitVec.toNat_ofNat, sent, number]
  omega

theorem imageLength_eq (memory : List Byte) : imageLength memory = 256 * (memoryByte memory 1).toNat + (memoryByte memory 2).toNat :=
  toNat_field_two rfl

/-- The CRC field of an image is its last two bytes (R135). -/
theorem toNat_crcField (memory : List Byte) {n : Nat} (least : 2 ≤ n) :
    (field (memoryBytes memory n) (n - 2) 2).toNat = 256 * (memoryByte memory (n - 2)).toNat + (memoryByte memory (n - 1)).toNat := by
  obtain ⟨m, rfl⟩ : ∃ m, n = m + 2 := ⟨n - 2, by omega⟩
  have bytes : memoryBytes memory (m + 2) = memoryBytes memory m ++ [memoryByte memory m, memoryByte memory (m + 1)] := by
    simp [memoryBytes, List.range_succ]
  have front : (memoryBytes memory m).length = m := by simp [memoryBytes]
  refine toNat_field_two ?_
  rw [Nat.add_sub_cancel, bytes, List.drop_left' front]
  rfl

section Built
variable (rs : List Request) (beyond : List Byte)

/-- The bytes of an image before its CRC (R135). -/
def imageFront : List Byte := [1#8] ++ bigEndian 2 ((imageRecords rs).length + 5 : Nat) ++ imageRecords rs

theorem imageOf_eq : imageOf rs = imageFront rs ++ bigEndian 2 (crc16 (imageFront rs)).toNat := rfl

theorem length_imageFront : (imageFront rs).length = (imageRecords rs).length + 3 := by
  simp only [imageFront, List.length_append, Laws.FrameSpelling.length_bigEndian, List.length_singleton]
  omega

theorem length_imageOf : (imageOf rs).length = (imageRecords rs).length + 5 := by
  rw [imageOf_eq, List.length_append, length_imageFront, Laws.FrameSpelling.length_bigEndian]

theorem memoryBytes_imageOf : memoryBytes (imageOf rs ++ beyond) (imageOf rs).length = imageOf rs := by
  rw [memoryBytes_eq_take (by simp), List.take_left]

theorem memoryBytes_imageFront : memoryBytes (imageOf rs ++ beyond) ((imageOf rs).length - 2) = imageFront rs := by
  have front : (imageOf rs).length - 2 = (imageFront rs).length := by
    rw [length_imageOf, length_imageFront]
    omega
  rw [front, memoryBytes_eq_take (by simp [imageOf_eq]), imageOf_eq, List.append_assoc, List.take_left]

theorem imageLength_imageOf (most : (imageOf rs).length ≤ 2048) : imageLength (imageOf rs ++ beyond) = (imageOf rs).length := by
  have sent : ((memoryBytes (imageOf rs ++ beyond) 3).drop 1).take 2 = bigEndian 2 ((imageOf rs).length : Nat) := by
    rw [length_imageOf]
    rfl
  rw [imageLength, field_of_bigEndian sent, BitVec.ofInt_natCast, BitVec.toNat_ofNat, Nat.mod_eq_of_lt (by omega)]

theorem crcField_imageOf : field (imageOf rs) ((imageOf rs).length - 2) 2 = crc16 (imageFront rs) := by
  have front : (imageOf rs).length - 2 = (imageFront rs).length := by
    rw [length_imageOf, length_imageFront]
    omega
  refine field_of_sent ?_
  rw [front, imageOf_eq, List.drop_left]
  rfl

end Built

/-! ### A record is the request of its kind, taken in STANDBY -/

section InForce
variable (s : State) (p : Port)

theorem State.inForce_ack (k : Byte) : (s.ack p k).inForce = s.inForce := by simp [State.inForce]

theorem State.inForce_listChange (cause : ListCause) (port : Option Port) : (s.listChange cause port).inForce = s.inForce := by simp [State.inForce]

theorem State.inForce_configurePort (c : PortConfig) : (s.configurePort p c).inForce = { s.inForce with ports := s.portTable.set p c } := rfl

theorem State.inForce_setChannel (i : ChannelIndex) (c : ChannelConfig) :
    (s.setChannel i (configuredChannel c)).inForce = { s.inForce with channels := s.inForce.channels.set i c } := by
  have channels : (s.setChannel i (configuredChannel c)).inForce.channels = s.inForce.channels.set i c := by
    refine Vector.ext fun j hj => ?_
    simp only [State.inForce, Vector.getElem_ofFn, Vector.getElem_set, State.channel_setChannel, Fin.ext_iff]
    split
    case isTrue same => rw [if_pos same.symm]; rfl
    case isFalse other => rw [if_neg (Ne.symm other)]
  rw [← channels]
  rfl

end InForce

/-- A record is staged as the request of its kind is taken in STANDBY, and out of range where that is refused (R136). -/
theorem State.take_record {s : State} {r : Request} (p : Port) (standby : s.mode = .standby) (record : 0x23#8 ≤ r.kind ∧ r.kind ≤ 0x26#8) :
    (s.inForce.stage r = none → s.take p r = s.nak p r.kind .range) ∧ ∀ c, s.inForce.stage r = some c → (s.take p r).inForce = c := by
  rcases isRecord_cases record with ⟨f, rfl⟩ | ⟨f, rfl⟩ | ⟨f, rfl⟩ | ⟨b, rfl⟩
  · rw [State.take, if_pos standby, State.takeSetSite]
    refine ⟨fun refused => ?_, fun c staged => ?_⟩
    · rw [Option.map_eq_none_iff.1 refused]
      rfl
    · obtain ⟨site, found, rfl⟩ := Option.map_eq_some_iff.1 staged
      rw [found]
      exact State.inForce_ack _ p _
  · rw [State.take, if_pos standby, State.takeSetPort]
    refine ⟨fun refused => ?_, fun c staged => ?_⟩
    · rw [Option.map_eq_none_iff.1 refused]
      rfl
    · obtain ⟨⟨target, entry⟩, found, rfl⟩ := Option.map_eq_some_iff.1 staged
      rw [found]
      exact (State.inForce_ack _ p _).trans (s.inForce_configurePort target entry)
  · rw [State.take, if_pos standby, State.takeSetChan]
    refine ⟨fun refused => ?_, fun c staged => ?_⟩
    · rw [Option.map_eq_none_iff.1 refused]
      rfl
    · obtain ⟨⟨i, config⟩, found, rfl⟩ := Option.map_eq_some_iff.1 staged
      rw [found]
      exact (State.inForce_ack _ p _).trans (s.inForce_setChannel i config)
  · rw [State.take, if_pos standby, State.takeSetProf]
    refine ⟨fun refused => ?_, fun c staged => ?_⟩
    · rw [Option.map_eq_none_iff.1 refused]
      rfl
    · obtain ⟨profile, found, rfl⟩ := Option.map_eq_some_iff.1 staged
      rw [found]
      exact (State.inForce_listChange _ .defaultSet none).trans (State.inForce_ack _ p _)

theorem exec_record {s : State} {p : Port} {i : Instr} {r : Request} (standby : s.mode = .standby) (standing : s.Supervises p)
    (asked : i.request = some (p, r)) (record : 0x23#8 ≤ r.kind ∧ r.kind ≤ 0x26#8) :
    (s.inForce.stage r = none → ∃ w : State, exec i s = .next w.settle ∧ s.Answers s w p [.nak r.kind .range] []) ∧
      ∀ c, s.inForce.stage r = some c → ∃ w : State, exec i s = .next w.settle ∧ w.inForce = c := by
  have supervisory : Request.ofController r = false := by
    rcases isRecord_cases record with ⟨f, rfl⟩ | ⟨f, rfl⟩ | ⟨f, rfl⟩ | ⟨b, rfl⟩ <;> rfl
  have taken := exec_configuring asked supervisory standby standing
  obtain ⟨refused, staged⟩ := State.take_record (s := s.acceptFrame p) p (by rwa [State.acceptFrame_mode]) record
  rw [State.inForce_acceptFrame] at refused staged
  exact ⟨fun range => ⟨_, taken.trans (by rw [refused range]), s.answers_nak p r.kind .range⟩, fun c fits => ⟨_, taken, staged c fits⟩⟩

/-- Settles O6: the checks in their order, the records one by one, and an image's own bytes. -/
theorem imageIsReadBack : Obligations.ImageIsReadBack := by
  unfold Obligations.ImageIsReadBack
  intro isRecord
  refine ⟨fun rs beyond records most => ?_, fun memory => ?_, fun s p i r standby standing asked record =>
    exec_record standby standing asked record, crc16_eq, by decide +kernel⟩
  · have length := imageLength_imageOf rs beyond most
    have least := length_imageOf rs
    have judgement := judgeImage_of_records (memory := imageOf rs ++ beyond) (rs := rs) (rest := []) rfl (by omega) (by omega)
      (by rw [length, memoryBytes_imageFront, memoryBytes_imageOf, crcField_imageOf]) records
      (by rw [length, memoryBytes_imageFront, List.append_nil]; rfl)
    obtain ⟨unfit, fits⟩ := judgement
    rcases staged : rs.foldlM Configuration.stage Configuration.start with _ | c
    · exact unfit staged
    · obtain ⟨left, _, eq⟩ := fits c staged
      rw [eq, stageRecords_nil]
      rfl
  · intro byte length body matching
    have said : imageLength memory = length := imageLength_eq memory
    have matches_iff (least : 5 ≤ length) :
        crc16 (memoryBytes memory (imageLength memory - 2)) = field (memoryBytes memory (imageLength memory)) (imageLength memory - 2) 2 ↔ matching := by
      rw [said, ← BitVec.toNat_inj, toNat_crcField memory (by omega)]
      rfl
    refine ⟨judgeImage_of_format, fun format outside => judgeImage_of_length format (by rwa [said]), fun format least most other => ?_,
      fun format least most good rs rest records bytes => ?_⟩
    · exact judgeImage_of_crc format (by rwa [said]) (by rwa [said]) (mt (matches_iff least).1 other)
    · obtain ⟨unfit, fits⟩ := judgeImage_of_records format (by rwa [said]) (by rwa [said]) ((matches_iff least).2 good) records
        (by rw [said]; exact bytes)
      refine ⟨unfit, fun c staged => ?_⟩
      obtain ⟨left, room, eq⟩ := fits c staged
      refine ⟨fun done => ?_, fun kind tail follows => ?_⟩
      · rw [eq, done, stageRecords_nil]
        rfl
      · rw [follows, List.length_cons] at room
        obtain ⟨left, rfl⟩ : ∃ n, left = n + 1 := ⟨left - 1, by omega⟩
        refine ⟨fun other => ?_, fun n known short => ?_⟩
        · have unknown : recordLength kind = none :=
            Option.eq_none_iff_forall_ne_some.2 fun n known => other n (recordLength_eq_some_iff.1 known)
          rw [eq, follows, stageRecords_of_otherKind unknown]
          rfl
        · rw [eq, follows, stageRecords_of_short (recordLength_eq_some_iff.2 known) short]
          rfl

end Sys2Proof.Machine
end
